-- ==== Sys2Proof/Word.lean ====
section
/-! DEFINITION. The two word types of the block: the 8-bit data word and the 16-bit address and register-pair word (R9). -/

namespace Sys2Proof

/-- The 8-bit data word (R9, `u8` of R16). -/
abbrev Byte := BitVec 8

/-- The 16-bit word: SP, PC, register pairs and addresses (R9, `u16` of R16). -/
abbrev Word := BitVec 16

end Sys2Proof
end

