-- ==== Sys2Proof/Config.lean ====
section
/-! DEFINITION. The implementation parameters of rule R10 as plain data, with their default values, and the free values: what the spec
leaves unconstrained, as opaque constants with no body. The parameters stand in a field of `State` that no step changes (log 1). -/

namespace Sys2Proof

/-- `COND_TICKS` (R10, R313, R821): which cost a conditional instruction is charged. -/
inductive CondTicks where
  | branchSensitive
  | taken
  | notTaken
  deriving DecidableEq, Repr

/-- `INVALID_OPCODE_POLICY` (R10, R655). -/
inductive InvalidOpcodePolicy where
  | nop
  | fault
  deriving DecidableEq, Repr

/-- `STOP_LENGTH` (R10, R652): 1 or 2 bytes. -/
inductive StopLength where
  | one
  | two
  deriving DecidableEq, Repr

/-- `DAA_MISS_POLICY` (R10, R467). -/
inductive DaaMissPolicy where
  | fault
  | hardwareAlgorithm
  deriving DecidableEq, Repr

/-- `RESET_PROFILE` (R10, R800). -/
inductive ResetProfile where
  | postBoot
  | bootRom
  deriving DecidableEq, Repr

/-- `RAM_INIT` (R10, R803): unconstrained, or given bytes: the listed cells, and `rest` at every other RAM address. -/
inductive RamInit where
  | unconstrained
  | given (cells : List (Nat × Byte)) (rest : Byte)
  deriving DecidableEq, Repr

/-- A binary operation of the language a named device is written in (log 17): on natural numbers, with subtraction that stops at 0 and
division by 0 giving 0. -/
inductive DeviceOp where
  | add | sub | mul | div | mod | and | or | xor
  deriving DecidableEq, Repr

/-- A number computed from the cells of a device and one access to it (log 17). -/
inductive DeviceExpr where
  /-- A constant. -/
  | num (n : Nat)
  /-- The address of the access. -/
  | addr
  /-- The byte written; 0 in a read. -/
  | data
  /-- The byte in the cell with the computed number. -/
  | cell (k : DeviceExpr)
  | op (o : DeviceOp) (x y : DeviceExpr)
  /-- `t` where `x < y`, and `e` elsewhere. -/
  | less (x y t e : DeviceExpr)
  deriving DecidableEq, Repr

/-- A byte a device stores in one of its own cells: the number of the cell, and the value, taken mod 256. -/
structure DeviceStore where
  cell : DeviceExpr
  value : DeviceExpr
  deriving DecidableEq, Repr

/-- A named collaborator (R14, R15): what it answers a read with, and which of its own cells a read and a write of it change (R223). Its
state is its cells, bytes by number (log 17). -/
structure Device where
  answer : DeviceExpr
  onRead : List DeviceStore
  onWrite : List DeviceStore
  deriving DecidableEq, Repr

/-- `Cartridge` (R10, R14, log 2): no provider named, so that every answer is a free value; the flat provider of 95_test_vectors.md (a ROM
of known bytes with no bank switching), with or without RAM in its RAM window; or any provider that a device names. -/
inductive CartProvider where
  | unnamed
  | flat (hasRam : Bool)
  | named (d : Device)
  deriving DecidableEq, Repr

/-- `ExtIO` (R10, R15, log 3): no peripheral named, so that every answer is a free value; or the peripherals that a device names. -/
inductive ExtProvider where
  | unnamed
  | named (d : Device)
  deriving DecidableEq, Repr

/-- One access of the core to a collaborator that is not named (R14, R15, log 2, log 3). -/
inductive BusEvent where
  | read (a : Word)
  | write (a : Word) (v : Byte)
  deriving DecidableEq, Repr

/-- The parameters of rule R10. -/
structure Params where
  /-- `COND_TICKS` -/
  condTicks : CondTicks
  /-- `INVALID_OPCODE_POLICY` -/
  invalidOpcodePolicy : InvalidOpcodePolicy
  /-- `UNDEF_TICKS` -/
  undefTicks : Nat
  /-- `INT_DISPATCH_TICKS` -/
  intDispatchTicks : Nat
  /-- `HALT_IDLE_TICKS` -/
  haltIdleTicks : Nat
  /-- `STOP_LENGTH` -/
  stopLength : StopLength
  /-- `IF_AUTOCLEAR` -/
  ifAutoclear : Bool
  /-- `IF_UNUSED_READ`: a mask over bits 7:5, held as those three bits. -/
  ifUnusedRead : BitVec 3
  /-- `UNMAPPED_READ` -/
  unmappedRead : Byte
  /-- `LCD_GATING` -/
  lcdGating : Bool
  /-- `DAA_MISS_POLICY` -/
  daaMissPolicy : DaaMissPolicy
  /-- `RESET_PROFILE` -/
  resetProfile : ResetProfile
  /-- `BOOT_ROM`: absent, or 256 bytes. -/
  bootRom : Option (Vector Byte 256)
  /-- `RAM_INIT` -/
  ramInit : RamInit
  /-- `Cartridge` -/
  cartridge : CartProvider
  /-- `ExtIO` -/
  extIo : ExtProvider
  deriving DecidableEq, Repr

/-- The defaults of rule R10. -/
def Params.default : Params where
  condTicks := .branchSensitive
  invalidOpcodePolicy := .nop
  undefTicks := 4
  intDispatchTicks := 16
  haltIdleTicks := 4
  stopLength := .two
  ifAutoclear := false
  ifUnusedRead := 0b111
  unmappedRead := 0x00
  lcdGating := false
  daaMissPolicy := .fault
  resetProfile := .postBoot
  bootRom := none
  ramInit := .unconstrained
  cartridge := .unnamed
  extIo := .unnamed

namespace Config

/-- FREE VALUE: the initial byte of core RAM at a bus address, where `RAM_INIT` is unconstrained (R803, log 4). -/
opaque freeRam : Nat → Byte

/-- FREE VALUE: what an unnamed cartridge provider answers a read with, given its whole history (R14, U6, log 2). -/
opaque cartAnswer : List BusEvent → Word → Byte

/-- FREE VALUE: what external I/O peripherals that are not named answer a read with, given their whole history (R15, U8, log 3). -/
opaque extAnswer : List BusEvent → Word → Byte

/-- FREE VALUE: the registers marked U of the BootRom profile; 0 to 6 are A B C D E H L, 7 is the flag byte (R117, U9, log 14). -/
opaque freeRegister : Nat → Byte

/-- FREE VALUE: SP under the BootRom profile (R117, U9, log 14). -/
opaque freeStackPointer : Word

end Config

end Sys2Proof
end

