-- ==== Sys2Proof/Syntax.lean ====
section
/-! DEFINITION. The instructions: one constructor for each row of spec/opcode_table.json (R306, R309), and the names of the operand
fields that the rules use (R303, R304, R305, R308, R309). -/

namespace Sys2Proof

/-- The 8-bit operands in the order of the operand field r (R304); `hlInd` is the byte at address HL. -/
inductive R8 where
  | b | c | d | e | h | l | hlInd | a
  deriving DecidableEq, Repr

/-- The register pairs of `R16[p]` (R305). -/
inductive R16 where
  | bc | de | hl | sp
  deriving DecidableEq, Repr

/-- The register pairs of `R16P[p]`, of PUSH and POP (R305). -/
inductive R16P where
  | bc | de | hl | af
  deriving DecidableEq, Repr

/-- The condition field `cc` (R303). -/
inductive Cond where
  | nz | z | nc | c
  deriving DecidableEq, Repr

/-- The operation field ALU[y] (R308). -/
inductive AluOp where
  | add | adc | sub | sbc | and | xor | or | cp
  deriving DecidableEq, Repr

/-- The rotate and shift operations of the CB table, CB 0x00 to 0x3F, in its order (R309). -/
inductive RotOp where
  | rlc | rrc | rl | rr | sla | sra | swap | srl
  deriving DecidableEq, Repr

/-- The instructions, one constructor per row of the opcode table. The docstring of a constructor gives its opcode and the spec's
mnemonic. Operands: `n` an unsigned byte, `a` an offset into 0xFF00-0xFFFF, `e` a signed displacement as its raw byte, `nn` and `aa`
16-bit immediates (R300, R302). The rows with an immediate stand first, then the others, both
in the table's order. `prefixCb` is the row of the prefix byte itself (R656, log 9). -/
inductive Instr where
  /-- 01: LD BC,n16 -/
  | ldBC_N16 (nn : Word)
  /-- 06: LD B,n8 -/
  | ldB_N8 (n : Byte)
  /-- 08: LD (a16),SP -/
  | ldIndA16_SP (aa : Word)
  /-- 0E: LD C,n8 -/
  | ldC_N8 (n : Byte)
  /-- 11: LD DE,n16 -/
  | ldDE_N16 (nn : Word)
  /-- 16: LD D,n8 -/
  | ldD_N8 (n : Byte)
  /-- 18: JR e8 -/
  | jrE8 (e : Byte)
  /-- 1E: LD E,n8 -/
  | ldE_N8 (n : Byte)
  /-- 20: JR NZ,e8 -/
  | jrNZ_E8 (e : Byte)
  /-- 21: LD HL,n16 -/
  | ldHL_N16 (nn : Word)
  /-- 26: LD H,n8 -/
  | ldH_N8 (n : Byte)
  /-- 28: JR Z,e8 -/
  | jrZ_E8 (e : Byte)
  /-- 2E: LD L,n8 -/
  | ldL_N8 (n : Byte)
  /-- 30: JR NC,e8 -/
  | jrNC_E8 (e : Byte)
  /-- 31: LD SP,n16 -/
  | ldSP_N16 (nn : Word)
  /-- 36: LD (HL),n8 -/
  | ldIndHL_N8 (n : Byte)
  /-- 38: JR C,e8 -/
  | jrC_E8 (e : Byte)
  /-- 3E: LD A,n8 -/
  | ldA_N8 (n : Byte)
  /-- C2: JP NZ,a16 -/
  | jpNZ_A16 (aa : Word)
  /-- C3: JP a16 -/
  | jpA16 (aa : Word)
  /-- C4: CALL NZ,a16 -/
  | callNZ_A16 (aa : Word)
  /-- C6: ADD A,n8 -/
  | addA_N8 (n : Byte)
  /-- CA: JP Z,a16 -/
  | jpZ_A16 (aa : Word)
  /-- CB: PREFIX CB -/
  | prefixCb (cb : Byte)
  /-- CC: CALL Z,a16 -/
  | callZ_A16 (aa : Word)
  /-- CD: CALL a16 -/
  | callA16 (aa : Word)
  /-- CE: ADC A,n8 -/
  | adcA_N8 (n : Byte)
  /-- D2: JP NC,a16 -/
  | jpNC_A16 (aa : Word)
  /-- D4: CALL NC,a16 -/
  | callNC_A16 (aa : Word)
  /-- D6: SUB A,n8 -/
  | subA_N8 (n : Byte)
  /-- DA: JP C,a16 -/
  | jpC_A16 (aa : Word)
  /-- DC: CALL C,a16 -/
  | callC_A16 (aa : Word)
  /-- DE: SBC A,n8 -/
  | sbcA_N8 (n : Byte)
  /-- E0: LDH (a8),A -/
  | ldhIndA8_A (a : Byte)
  /-- E6: AND A,n8 -/
  | andA_N8 (n : Byte)
  /-- E8: ADD SP,e8 -/
  | addSP_E8 (e : Byte)
  /-- EA: LD (a16),A -/
  | ldIndA16_A (aa : Word)
  /-- EE: XOR A,n8 -/
  | xorA_N8 (n : Byte)
  /-- F0: LDH A,(a8) -/
  | ldhA_IndA8 (a : Byte)
  /-- F6: OR A,n8 -/
  | orA_N8 (n : Byte)
  /-- F8: LD HL,SP+e8 -/
  | ldHL_SPE8 (e : Byte)
  /-- FA: LD A,(a16) -/
  | ldA_IndA16 (aa : Word)
  /-- FE: CP A,n8 -/
  | cpA_N8 (n : Byte)
  /-- 00: NOP -/
  | nop
  /-- 02: LD (BC),A -/
  | ldIndBC_A
  /-- 03: INC BC -/
  | incBC
  /-- 04: INC B -/
  | incB
  /-- 05: DEC B -/
  | decB
  /-- 07: RLCA -/
  | rlca
  /-- 09: ADD HL,BC -/
  | addHL_BC
  /-- 0A: LD A,(BC) -/
  | ldA_IndBC
  /-- 0B: DEC BC -/
  | decBC
  /-- 0C: INC C -/
  | incC
  /-- 0D: DEC C -/
  | decC
  /-- 0F: RRCA -/
  | rrca
  /-- 10: STOP -/
  | stop
  /-- 12: LD (DE),A -/
  | ldIndDE_A
  /-- 13: INC DE -/
  | incDE
  /-- 14: INC D -/
  | incD
  /-- 15: DEC D -/
  | decD
  /-- 17: RLA -/
  | rla
  /-- 19: ADD HL,DE -/
  | addHL_DE
  /-- 1A: LD A,(DE) -/
  | ldA_IndDE
  /-- 1B: DEC DE -/
  | decDE
  /-- 1C: INC E -/
  | incE
  /-- 1D: DEC E -/
  | decE
  /-- 1F: RRA -/
  | rra
  /-- 22: LD (HL+),A -/
  | ldIndHLInc_A
  /-- 23: INC HL -/
  | incHL
  /-- 24: INC H -/
  | incH
  /-- 25: DEC H -/
  | decH
  /-- 27: DAA -/
  | daa
  /-- 29: ADD HL,HL -/
  | addHL_HL
  /-- 2A: LD A,(HL+) -/
  | ldA_IndHLInc
  /-- 2B: DEC HL -/
  | decHL
  /-- 2C: INC L -/
  | incL
  /-- 2D: DEC L -/
  | decL
  /-- 2F: CPL -/
  | cpl
  /-- 32: LD (HL-),A -/
  | ldIndHLDec_A
  /-- 33: INC SP -/
  | incSP
  /-- 34: INC (HL) -/
  | incIndHL
  /-- 35: DEC (HL) -/
  | decIndHL
  /-- 37: SCF -/
  | scf
  /-- 39: ADD HL,SP -/
  | addHL_SP
  /-- 3A: LD A,(HL-) -/
  | ldA_IndHLDec
  /-- 3B: DEC SP -/
  | decSP
  /-- 3C: INC A -/
  | incA
  /-- 3D: DEC A -/
  | decA
  /-- 3F: CCF -/
  | ccf
  /-- 40: LD B,B -/
  | ldB_B
  /-- 41: LD B,C -/
  | ldB_C
  /-- 42: LD B,D -/
  | ldB_D
  /-- 43: LD B,E -/
  | ldB_E
  /-- 44: LD B,H -/
  | ldB_H
  /-- 45: LD B,L -/
  | ldB_L
  /-- 46: LD B,(HL) -/
  | ldB_IndHL
  /-- 47: LD B,A -/
  | ldB_A
  /-- 48: LD C,B -/
  | ldC_B
  /-- 49: LD C,C -/
  | ldC_C
  /-- 4A: LD C,D -/
  | ldC_D
  /-- 4B: LD C,E -/
  | ldC_E
  /-- 4C: LD C,H -/
  | ldC_H
  /-- 4D: LD C,L -/
  | ldC_L
  /-- 4E: LD C,(HL) -/
  | ldC_IndHL
  /-- 4F: LD C,A -/
  | ldC_A
  /-- 50: LD D,B -/
  | ldD_B
  /-- 51: LD D,C -/
  | ldD_C
  /-- 52: LD D,D -/
  | ldD_D
  /-- 53: LD D,E -/
  | ldD_E
  /-- 54: LD D,H -/
  | ldD_H
  /-- 55: LD D,L -/
  | ldD_L
  /-- 56: LD D,(HL) -/
  | ldD_IndHL
  /-- 57: LD D,A -/
  | ldD_A
  /-- 58: LD E,B -/
  | ldE_B
  /-- 59: LD E,C -/
  | ldE_C
  /-- 5A: LD E,D -/
  | ldE_D
  /-- 5B: LD E,E -/
  | ldE_E
  /-- 5C: LD E,H -/
  | ldE_H
  /-- 5D: LD E,L -/
  | ldE_L
  /-- 5E: LD E,(HL) -/
  | ldE_IndHL
  /-- 5F: LD E,A -/
  | ldE_A
  /-- 60: LD H,B -/
  | ldH_B
  /-- 61: LD H,C -/
  | ldH_C
  /-- 62: LD H,D -/
  | ldH_D
  /-- 63: LD H,E -/
  | ldH_E
  /-- 64: LD H,H -/
  | ldH_H
  /-- 65: LD H,L -/
  | ldH_L
  /-- 66: LD H,(HL) -/
  | ldH_IndHL
  /-- 67: LD H,A -/
  | ldH_A
  /-- 68: LD L,B -/
  | ldL_B
  /-- 69: LD L,C -/
  | ldL_C
  /-- 6A: LD L,D -/
  | ldL_D
  /-- 6B: LD L,E -/
  | ldL_E
  /-- 6C: LD L,H -/
  | ldL_H
  /-- 6D: LD L,L -/
  | ldL_L
  /-- 6E: LD L,(HL) -/
  | ldL_IndHL
  /-- 6F: LD L,A -/
  | ldL_A
  /-- 70: LD (HL),B -/
  | ldIndHL_B
  /-- 71: LD (HL),C -/
  | ldIndHL_C
  /-- 72: LD (HL),D -/
  | ldIndHL_D
  /-- 73: LD (HL),E -/
  | ldIndHL_E
  /-- 74: LD (HL),H -/
  | ldIndHL_H
  /-- 75: LD (HL),L -/
  | ldIndHL_L
  /-- 76: HALT -/
  | halt
  /-- 77: LD (HL),A -/
  | ldIndHL_A
  /-- 78: LD A,B -/
  | ldA_B
  /-- 79: LD A,C -/
  | ldA_C
  /-- 7A: LD A,D -/
  | ldA_D
  /-- 7B: LD A,E -/
  | ldA_E
  /-- 7C: LD A,H -/
  | ldA_H
  /-- 7D: LD A,L -/
  | ldA_L
  /-- 7E: LD A,(HL) -/
  | ldA_IndHL
  /-- 7F: LD A,A -/
  | ldA_A
  /-- 80: ADD A,B -/
  | addA_B
  /-- 81: ADD A,C -/
  | addA_C
  /-- 82: ADD A,D -/
  | addA_D
  /-- 83: ADD A,E -/
  | addA_E
  /-- 84: ADD A,H -/
  | addA_H
  /-- 85: ADD A,L -/
  | addA_L
  /-- 86: ADD A,(HL) -/
  | addA_IndHL
  /-- 87: ADD A,A -/
  | addA_A
  /-- 88: ADC A,B -/
  | adcA_B
  /-- 89: ADC A,C -/
  | adcA_C
  /-- 8A: ADC A,D -/
  | adcA_D
  /-- 8B: ADC A,E -/
  | adcA_E
  /-- 8C: ADC A,H -/
  | adcA_H
  /-- 8D: ADC A,L -/
  | adcA_L
  /-- 8E: ADC A,(HL) -/
  | adcA_IndHL
  /-- 8F: ADC A,A -/
  | adcA_A
  /-- 90: SUB A,B -/
  | subA_B
  /-- 91: SUB A,C -/
  | subA_C
  /-- 92: SUB A,D -/
  | subA_D
  /-- 93: SUB A,E -/
  | subA_E
  /-- 94: SUB A,H -/
  | subA_H
  /-- 95: SUB A,L -/
  | subA_L
  /-- 96: SUB A,(HL) -/
  | subA_IndHL
  /-- 97: SUB A,A -/
  | subA_A
  /-- 98: SBC A,B -/
  | sbcA_B
  /-- 99: SBC A,C -/
  | sbcA_C
  /-- 9A: SBC A,D -/
  | sbcA_D
  /-- 9B: SBC A,E -/
  | sbcA_E
  /-- 9C: SBC A,H -/
  | sbcA_H
  /-- 9D: SBC A,L -/
  | sbcA_L
  /-- 9E: SBC A,(HL) -/
  | sbcA_IndHL
  /-- 9F: SBC A,A -/
  | sbcA_A
  /-- A0: AND A,B -/
  | andA_B
  /-- A1: AND A,C -/
  | andA_C
  /-- A2: AND A,D -/
  | andA_D
  /-- A3: AND A,E -/
  | andA_E
  /-- A4: AND A,H -/
  | andA_H
  /-- A5: AND A,L -/
  | andA_L
  /-- A6: AND A,(HL) -/
  | andA_IndHL
  /-- A7: AND A,A -/
  | andA_A
  /-- A8: XOR A,B -/
  | xorA_B
  /-- A9: XOR A,C -/
  | xorA_C
  /-- AA: XOR A,D -/
  | xorA_D
  /-- AB: XOR A,E -/
  | xorA_E
  /-- AC: XOR A,H -/
  | xorA_H
  /-- AD: XOR A,L -/
  | xorA_L
  /-- AE: XOR A,(HL) -/
  | xorA_IndHL
  /-- AF: XOR A,A -/
  | xorA_A
  /-- B0: OR A,B -/
  | orA_B
  /-- B1: OR A,C -/
  | orA_C
  /-- B2: OR A,D -/
  | orA_D
  /-- B3: OR A,E -/
  | orA_E
  /-- B4: OR A,H -/
  | orA_H
  /-- B5: OR A,L -/
  | orA_L
  /-- B6: OR A,(HL) -/
  | orA_IndHL
  /-- B7: OR A,A -/
  | orA_A
  /-- B8: CP A,B -/
  | cpA_B
  /-- B9: CP A,C -/
  | cpA_C
  /-- BA: CP A,D -/
  | cpA_D
  /-- BB: CP A,E -/
  | cpA_E
  /-- BC: CP A,H -/
  | cpA_H
  /-- BD: CP A,L -/
  | cpA_L
  /-- BE: CP A,(HL) -/
  | cpA_IndHL
  /-- BF: CP A,A -/
  | cpA_A
  /-- C0: RET NZ -/
  | retNZ
  /-- C1: POP BC -/
  | popBC
  /-- C5: PUSH BC -/
  | pushBC
  /-- C7: RST 0x00 -/
  | rst00
  /-- C8: RET Z -/
  | retZ
  /-- C9: RET -/
  | ret
  /-- CF: RST 0x08 -/
  | rst08
  /-- D0: RET NC -/
  | retNC
  /-- D1: POP DE -/
  | popDE
  /-- D3: undefined opcode -/
  | undefinedD3
  /-- D5: PUSH DE -/
  | pushDE
  /-- D7: RST 0x10 -/
  | rst10
  /-- D8: RET C -/
  | retC
  /-- D9: RETI -/
  | reti
  /-- DB: undefined opcode -/
  | undefinedDB
  /-- DD: undefined opcode -/
  | undefinedDD
  /-- DF: RST 0x18 -/
  | rst18
  /-- E1: POP HL -/
  | popHL
  /-- E2: LD (C),A -/
  | ldIndC_A
  /-- E3: undefined opcode -/
  | undefinedE3
  /-- E4: undefined opcode -/
  | undefinedE4
  /-- E5: PUSH HL -/
  | pushHL
  /-- E7: RST 0x20 -/
  | rst20
  /-- E9: JP HL -/
  | jpHL
  /-- EB: undefined opcode -/
  | undefinedEB
  /-- EC: undefined opcode -/
  | undefinedEC
  /-- ED: undefined opcode -/
  | undefinedED
  /-- EF: RST 0x28 -/
  | rst28
  /-- F1: POP AF -/
  | popAF
  /-- F2: LD A,(C) -/
  | ldA_IndC
  /-- F3: DI -/
  | di
  /-- F4: undefined opcode -/
  | undefinedF4
  /-- F5: PUSH AF -/
  | pushAF
  /-- F7: RST 0x30 -/
  | rst30
  /-- F9: LD SP,HL -/
  | ldSP_HL
  /-- FB: EI -/
  | ei
  /-- FC: undefined opcode -/
  | undefinedFC
  /-- FD: undefined opcode -/
  | undefinedFD
  /-- FF: RST 0x38 -/
  | rst38
  /-- CB 00: RLC B -/
  | rlcB
  /-- CB 01: RLC C -/
  | rlcC
  /-- CB 02: RLC D -/
  | rlcD
  /-- CB 03: RLC E -/
  | rlcE
  /-- CB 04: RLC H -/
  | rlcH
  /-- CB 05: RLC L -/
  | rlcL
  /-- CB 06: RLC (HL) -/
  | rlcIndHL
  /-- CB 07: RLC A -/
  | rlcA
  /-- CB 08: RRC B -/
  | rrcB
  /-- CB 09: RRC C -/
  | rrcC
  /-- CB 0A: RRC D -/
  | rrcD
  /-- CB 0B: RRC E -/
  | rrcE
  /-- CB 0C: RRC H -/
  | rrcH
  /-- CB 0D: RRC L -/
  | rrcL
  /-- CB 0E: RRC (HL) -/
  | rrcIndHL
  /-- CB 0F: RRC A -/
  | rrcA
  /-- CB 10: RL B -/
  | rlB
  /-- CB 11: RL C -/
  | rlC
  /-- CB 12: RL D -/
  | rlD
  /-- CB 13: RL E -/
  | rlE
  /-- CB 14: RL H -/
  | rlH
  /-- CB 15: RL L -/
  | rlL
  /-- CB 16: RL (HL) -/
  | rlIndHL
  /-- CB 17: RL A -/
  | rlA
  /-- CB 18: RR B -/
  | rrB
  /-- CB 19: RR C -/
  | rrC
  /-- CB 1A: RR D -/
  | rrD
  /-- CB 1B: RR E -/
  | rrE
  /-- CB 1C: RR H -/
  | rrH
  /-- CB 1D: RR L -/
  | rrL
  /-- CB 1E: RR (HL) -/
  | rrIndHL
  /-- CB 1F: RR A -/
  | rrA
  /-- CB 20: SLA B -/
  | slaB
  /-- CB 21: SLA C -/
  | slaC
  /-- CB 22: SLA D -/
  | slaD
  /-- CB 23: SLA E -/
  | slaE
  /-- CB 24: SLA H -/
  | slaH
  /-- CB 25: SLA L -/
  | slaL
  /-- CB 26: SLA (HL) -/
  | slaIndHL
  /-- CB 27: SLA A -/
  | slaA
  /-- CB 28: SRA B -/
  | sraB
  /-- CB 29: SRA C -/
  | sraC
  /-- CB 2A: SRA D -/
  | sraD
  /-- CB 2B: SRA E -/
  | sraE
  /-- CB 2C: SRA H -/
  | sraH
  /-- CB 2D: SRA L -/
  | sraL
  /-- CB 2E: SRA (HL) -/
  | sraIndHL
  /-- CB 2F: SRA A -/
  | sraA
  /-- CB 30: SWAP B -/
  | swapB
  /-- CB 31: SWAP C -/
  | swapC
  /-- CB 32: SWAP D -/
  | swapD
  /-- CB 33: SWAP E -/
  | swapE
  /-- CB 34: SWAP H -/
  | swapH
  /-- CB 35: SWAP L -/
  | swapL
  /-- CB 36: SWAP (HL) -/
  | swapIndHL
  /-- CB 37: SWAP A -/
  | swapA
  /-- CB 38: SRL B -/
  | srlB
  /-- CB 39: SRL C -/
  | srlC
  /-- CB 3A: SRL D -/
  | srlD
  /-- CB 3B: SRL E -/
  | srlE
  /-- CB 3C: SRL H -/
  | srlH
  /-- CB 3D: SRL L -/
  | srlL
  /-- CB 3E: SRL (HL) -/
  | srlIndHL
  /-- CB 3F: SRL A -/
  | srlA
  /-- CB 40: BIT 0,B -/
  | bit0_B
  /-- CB 41: BIT 0,C -/
  | bit0_C
  /-- CB 42: BIT 0,D -/
  | bit0_D
  /-- CB 43: BIT 0,E -/
  | bit0_E
  /-- CB 44: BIT 0,H -/
  | bit0_H
  /-- CB 45: BIT 0,L -/
  | bit0_L
  /-- CB 46: BIT 0,(HL) -/
  | bit0_IndHL
  /-- CB 47: BIT 0,A -/
  | bit0_A
  /-- CB 48: BIT 1,B -/
  | bit1_B
  /-- CB 49: BIT 1,C -/
  | bit1_C
  /-- CB 4A: BIT 1,D -/
  | bit1_D
  /-- CB 4B: BIT 1,E -/
  | bit1_E
  /-- CB 4C: BIT 1,H -/
  | bit1_H
  /-- CB 4D: BIT 1,L -/
  | bit1_L
  /-- CB 4E: BIT 1,(HL) -/
  | bit1_IndHL
  /-- CB 4F: BIT 1,A -/
  | bit1_A
  /-- CB 50: BIT 2,B -/
  | bit2_B
  /-- CB 51: BIT 2,C -/
  | bit2_C
  /-- CB 52: BIT 2,D -/
  | bit2_D
  /-- CB 53: BIT 2,E -/
  | bit2_E
  /-- CB 54: BIT 2,H -/
  | bit2_H
  /-- CB 55: BIT 2,L -/
  | bit2_L
  /-- CB 56: BIT 2,(HL) -/
  | bit2_IndHL
  /-- CB 57: BIT 2,A -/
  | bit2_A
  /-- CB 58: BIT 3,B -/
  | bit3_B
  /-- CB 59: BIT 3,C -/
  | bit3_C
  /-- CB 5A: BIT 3,D -/
  | bit3_D
  /-- CB 5B: BIT 3,E -/
  | bit3_E
  /-- CB 5C: BIT 3,H -/
  | bit3_H
  /-- CB 5D: BIT 3,L -/
  | bit3_L
  /-- CB 5E: BIT 3,(HL) -/
  | bit3_IndHL
  /-- CB 5F: BIT 3,A -/
  | bit3_A
  /-- CB 60: BIT 4,B -/
  | bit4_B
  /-- CB 61: BIT 4,C -/
  | bit4_C
  /-- CB 62: BIT 4,D -/
  | bit4_D
  /-- CB 63: BIT 4,E -/
  | bit4_E
  /-- CB 64: BIT 4,H -/
  | bit4_H
  /-- CB 65: BIT 4,L -/
  | bit4_L
  /-- CB 66: BIT 4,(HL) -/
  | bit4_IndHL
  /-- CB 67: BIT 4,A -/
  | bit4_A
  /-- CB 68: BIT 5,B -/
  | bit5_B
  /-- CB 69: BIT 5,C -/
  | bit5_C
  /-- CB 6A: BIT 5,D -/
  | bit5_D
  /-- CB 6B: BIT 5,E -/
  | bit5_E
  /-- CB 6C: BIT 5,H -/
  | bit5_H
  /-- CB 6D: BIT 5,L -/
  | bit5_L
  /-- CB 6E: BIT 5,(HL) -/
  | bit5_IndHL
  /-- CB 6F: BIT 5,A -/
  | bit5_A
  /-- CB 70: BIT 6,B -/
  | bit6_B
  /-- CB 71: BIT 6,C -/
  | bit6_C
  /-- CB 72: BIT 6,D -/
  | bit6_D
  /-- CB 73: BIT 6,E -/
  | bit6_E
  /-- CB 74: BIT 6,H -/
  | bit6_H
  /-- CB 75: BIT 6,L -/
  | bit6_L
  /-- CB 76: BIT 6,(HL) -/
  | bit6_IndHL
  /-- CB 77: BIT 6,A -/
  | bit6_A
  /-- CB 78: BIT 7,B -/
  | bit7_B
  /-- CB 79: BIT 7,C -/
  | bit7_C
  /-- CB 7A: BIT 7,D -/
  | bit7_D
  /-- CB 7B: BIT 7,E -/
  | bit7_E
  /-- CB 7C: BIT 7,H -/
  | bit7_H
  /-- CB 7D: BIT 7,L -/
  | bit7_L
  /-- CB 7E: BIT 7,(HL) -/
  | bit7_IndHL
  /-- CB 7F: BIT 7,A -/
  | bit7_A
  /-- CB 80: RES 0,B -/
  | res0_B
  /-- CB 81: RES 0,C -/
  | res0_C
  /-- CB 82: RES 0,D -/
  | res0_D
  /-- CB 83: RES 0,E -/
  | res0_E
  /-- CB 84: RES 0,H -/
  | res0_H
  /-- CB 85: RES 0,L -/
  | res0_L
  /-- CB 86: RES 0,(HL) -/
  | res0_IndHL
  /-- CB 87: RES 0,A -/
  | res0_A
  /-- CB 88: RES 1,B -/
  | res1_B
  /-- CB 89: RES 1,C -/
  | res1_C
  /-- CB 8A: RES 1,D -/
  | res1_D
  /-- CB 8B: RES 1,E -/
  | res1_E
  /-- CB 8C: RES 1,H -/
  | res1_H
  /-- CB 8D: RES 1,L -/
  | res1_L
  /-- CB 8E: RES 1,(HL) -/
  | res1_IndHL
  /-- CB 8F: RES 1,A -/
  | res1_A
  /-- CB 90: RES 2,B -/
  | res2_B
  /-- CB 91: RES 2,C -/
  | res2_C
  /-- CB 92: RES 2,D -/
  | res2_D
  /-- CB 93: RES 2,E -/
  | res2_E
  /-- CB 94: RES 2,H -/
  | res2_H
  /-- CB 95: RES 2,L -/
  | res2_L
  /-- CB 96: RES 2,(HL) -/
  | res2_IndHL
  /-- CB 97: RES 2,A -/
  | res2_A
  /-- CB 98: RES 3,B -/
  | res3_B
  /-- CB 99: RES 3,C -/
  | res3_C
  /-- CB 9A: RES 3,D -/
  | res3_D
  /-- CB 9B: RES 3,E -/
  | res3_E
  /-- CB 9C: RES 3,H -/
  | res3_H
  /-- CB 9D: RES 3,L -/
  | res3_L
  /-- CB 9E: RES 3,(HL) -/
  | res3_IndHL
  /-- CB 9F: RES 3,A -/
  | res3_A
  /-- CB A0: RES 4,B -/
  | res4_B
  /-- CB A1: RES 4,C -/
  | res4_C
  /-- CB A2: RES 4,D -/
  | res4_D
  /-- CB A3: RES 4,E -/
  | res4_E
  /-- CB A4: RES 4,H -/
  | res4_H
  /-- CB A5: RES 4,L -/
  | res4_L
  /-- CB A6: RES 4,(HL) -/
  | res4_IndHL
  /-- CB A7: RES 4,A -/
  | res4_A
  /-- CB A8: RES 5,B -/
  | res5_B
  /-- CB A9: RES 5,C -/
  | res5_C
  /-- CB AA: RES 5,D -/
  | res5_D
  /-- CB AB: RES 5,E -/
  | res5_E
  /-- CB AC: RES 5,H -/
  | res5_H
  /-- CB AD: RES 5,L -/
  | res5_L
  /-- CB AE: RES 5,(HL) -/
  | res5_IndHL
  /-- CB AF: RES 5,A -/
  | res5_A
  /-- CB B0: RES 6,B -/
  | res6_B
  /-- CB B1: RES 6,C -/
  | res6_C
  /-- CB B2: RES 6,D -/
  | res6_D
  /-- CB B3: RES 6,E -/
  | res6_E
  /-- CB B4: RES 6,H -/
  | res6_H
  /-- CB B5: RES 6,L -/
  | res6_L
  /-- CB B6: RES 6,(HL) -/
  | res6_IndHL
  /-- CB B7: RES 6,A -/
  | res6_A
  /-- CB B8: RES 7,B -/
  | res7_B
  /-- CB B9: RES 7,C -/
  | res7_C
  /-- CB BA: RES 7,D -/
  | res7_D
  /-- CB BB: RES 7,E -/
  | res7_E
  /-- CB BC: RES 7,H -/
  | res7_H
  /-- CB BD: RES 7,L -/
  | res7_L
  /-- CB BE: RES 7,(HL) -/
  | res7_IndHL
  /-- CB BF: RES 7,A -/
  | res7_A
  /-- CB C0: SET 0,B -/
  | set0_B
  /-- CB C1: SET 0,C -/
  | set0_C
  /-- CB C2: SET 0,D -/
  | set0_D
  /-- CB C3: SET 0,E -/
  | set0_E
  /-- CB C4: SET 0,H -/
  | set0_H
  /-- CB C5: SET 0,L -/
  | set0_L
  /-- CB C6: SET 0,(HL) -/
  | set0_IndHL
  /-- CB C7: SET 0,A -/
  | set0_A
  /-- CB C8: SET 1,B -/
  | set1_B
  /-- CB C9: SET 1,C -/
  | set1_C
  /-- CB CA: SET 1,D -/
  | set1_D
  /-- CB CB: SET 1,E -/
  | set1_E
  /-- CB CC: SET 1,H -/
  | set1_H
  /-- CB CD: SET 1,L -/
  | set1_L
  /-- CB CE: SET 1,(HL) -/
  | set1_IndHL
  /-- CB CF: SET 1,A -/
  | set1_A
  /-- CB D0: SET 2,B -/
  | set2_B
  /-- CB D1: SET 2,C -/
  | set2_C
  /-- CB D2: SET 2,D -/
  | set2_D
  /-- CB D3: SET 2,E -/
  | set2_E
  /-- CB D4: SET 2,H -/
  | set2_H
  /-- CB D5: SET 2,L -/
  | set2_L
  /-- CB D6: SET 2,(HL) -/
  | set2_IndHL
  /-- CB D7: SET 2,A -/
  | set2_A
  /-- CB D8: SET 3,B -/
  | set3_B
  /-- CB D9: SET 3,C -/
  | set3_C
  /-- CB DA: SET 3,D -/
  | set3_D
  /-- CB DB: SET 3,E -/
  | set3_E
  /-- CB DC: SET 3,H -/
  | set3_H
  /-- CB DD: SET 3,L -/
  | set3_L
  /-- CB DE: SET 3,(HL) -/
  | set3_IndHL
  /-- CB DF: SET 3,A -/
  | set3_A
  /-- CB E0: SET 4,B -/
  | set4_B
  /-- CB E1: SET 4,C -/
  | set4_C
  /-- CB E2: SET 4,D -/
  | set4_D
  /-- CB E3: SET 4,E -/
  | set4_E
  /-- CB E4: SET 4,H -/
  | set4_H
  /-- CB E5: SET 4,L -/
  | set4_L
  /-- CB E6: SET 4,(HL) -/
  | set4_IndHL
  /-- CB E7: SET 4,A -/
  | set4_A
  /-- CB E8: SET 5,B -/
  | set5_B
  /-- CB E9: SET 5,C -/
  | set5_C
  /-- CB EA: SET 5,D -/
  | set5_D
  /-- CB EB: SET 5,E -/
  | set5_E
  /-- CB EC: SET 5,H -/
  | set5_H
  /-- CB ED: SET 5,L -/
  | set5_L
  /-- CB EE: SET 5,(HL) -/
  | set5_IndHL
  /-- CB EF: SET 5,A -/
  | set5_A
  /-- CB F0: SET 6,B -/
  | set6_B
  /-- CB F1: SET 6,C -/
  | set6_C
  /-- CB F2: SET 6,D -/
  | set6_D
  /-- CB F3: SET 6,E -/
  | set6_E
  /-- CB F4: SET 6,H -/
  | set6_H
  /-- CB F5: SET 6,L -/
  | set6_L
  /-- CB F6: SET 6,(HL) -/
  | set6_IndHL
  /-- CB F7: SET 6,A -/
  | set6_A
  /-- CB F8: SET 7,B -/
  | set7_B
  /-- CB F9: SET 7,C -/
  | set7_C
  /-- CB FA: SET 7,D -/
  | set7_D
  /-- CB FB: SET 7,E -/
  | set7_E
  /-- CB FC: SET 7,H -/
  | set7_H
  /-- CB FD: SET 7,L -/
  | set7_L
  /-- CB FE: SET 7,(HL) -/
  | set7_IndHL
  /-- CB FF: SET 7,A -/
  | set7_A
  deriving DecidableEq, Repr

end Sys2Proof
end

