-- ==== Sys2Proof/WellFormed.lean ====
section
/-! DEFINITION. Which terms of `Instr` are instructions that some bytes encode. Every immediate has exactly the width its encoding gives
it, so the one check is about the prefix byte. -/

namespace Sys2Proof

/-- The prefix byte alone is no instruction: 0xCB and its CB byte are one instruction of one step (R656), which is the row of the CB
table. Every other term is the instruction of its row (R315). -/
def Instr.wellFormed : Instr → Bool
  | .prefixCb _ => false
  | _ => true

end Sys2Proof
end

