-- ==== Sys2Proof/Decode.lean ====
section
/-! DEFINITION. From bytes to instructions and back: the fields of an opcode byte (R301), the rows the operand fields select (R304, R305,
R307, R308, R309), the base map (R306), the decoder (R311, R312, R315) and the encoder. -/

namespace Sys2Proof

/-! ### Bytes and words -/

/-- `hi ++ lo` (R16): the word whose high byte is `hi`. -/
def join (hi lo : Byte) : Word := hi ++ lo

/-- `w[15:8]` -/
def hi8 (w : Word) : Byte := w.extractLsb' 8 8

/-- `w[7:0]` -/
def lo8 (w : Word) : Byte := w.extractLsb' 0 8

/-! ### The fields of an opcode byte (R301) -/

/-- `op[7:6]`, the block. -/
def fieldX (op : Byte) : BitVec 2 := op.extractLsb' 6 2

/-- `op[5:3]` -/
def fieldY (op : Byte) : BitVec 3 := op.extractLsb' 3 3

/-- `op[2:0]` -/
def fieldZ (op : Byte) : BitVec 3 := op.extractLsb' 0 3

/-- The operand that the field r selects (R304). -/
def R8.ofField (r : BitVec 3) : R8 :=
  match r.toNat with
  | 0 => .b | 1 => .c | 2 => .d | 3 => .e | 4 => .h | 5 => .l | 6 => .hlInd | _ => .a

/-- The operation that the field y selects in the ALU block (R308). -/
def AluOp.ofField (y : BitVec 3) : AluOp :=
  match y.toNat with
  | 0 => .add | 1 => .adc | 2 => .sub | 3 => .sbc | 4 => .and | 5 => .xor | 6 => .or | _ => .cp

/-- The operation that the field y selects in the first quarter of the CB table (R309). -/
def RotOp.ofField (y : BitVec 3) : RotOp :=
  match y.toNat with
  | 0 => .rlc | 1 => .rrc | 2 => .rl | 3 => .rr | 4 => .sla | 5 => .sra | 6 => .swap | _ => .srl

/-! ### The row that the operands select -/

/-- `LD R8[y], R8[z]`, with HALT in the place of `LD (HL),(HL)` (R307). -/
def ldRow : R8 → R8 → Instr
  | .b, .b => .ldB_B | .b, .c => .ldB_C | .b, .d => .ldB_D | .b, .e => .ldB_E
  | .b, .h => .ldB_H | .b, .l => .ldB_L | .b, .hlInd => .ldB_IndHL | .b, .a => .ldB_A
  | .c, .b => .ldC_B | .c, .c => .ldC_C | .c, .d => .ldC_D | .c, .e => .ldC_E
  | .c, .h => .ldC_H | .c, .l => .ldC_L | .c, .hlInd => .ldC_IndHL | .c, .a => .ldC_A
  | .d, .b => .ldD_B | .d, .c => .ldD_C | .d, .d => .ldD_D | .d, .e => .ldD_E
  | .d, .h => .ldD_H | .d, .l => .ldD_L | .d, .hlInd => .ldD_IndHL | .d, .a => .ldD_A
  | .e, .b => .ldE_B | .e, .c => .ldE_C | .e, .d => .ldE_D | .e, .e => .ldE_E
  | .e, .h => .ldE_H | .e, .l => .ldE_L | .e, .hlInd => .ldE_IndHL | .e, .a => .ldE_A
  | .h, .b => .ldH_B | .h, .c => .ldH_C | .h, .d => .ldH_D | .h, .e => .ldH_E
  | .h, .h => .ldH_H | .h, .l => .ldH_L | .h, .hlInd => .ldH_IndHL | .h, .a => .ldH_A
  | .l, .b => .ldL_B | .l, .c => .ldL_C | .l, .d => .ldL_D | .l, .e => .ldL_E
  | .l, .h => .ldL_H | .l, .l => .ldL_L | .l, .hlInd => .ldL_IndHL | .l, .a => .ldL_A
  | .hlInd, .b => .ldIndHL_B | .hlInd, .c => .ldIndHL_C | .hlInd, .d => .ldIndHL_D | .hlInd, .e => .ldIndHL_E
  | .hlInd, .h => .ldIndHL_H | .hlInd, .l => .ldIndHL_L | .hlInd, .hlInd => .halt | .hlInd, .a => .ldIndHL_A
  | .a, .b => .ldA_B | .a, .c => .ldA_C | .a, .d => .ldA_D | .a, .e => .ldA_E
  | .a, .h => .ldA_H | .a, .l => .ldA_L | .a, .hlInd => .ldA_IndHL | .a, .a => .ldA_A

/-- `ALU[y] A, R8[z]` (R308). -/
def aluRow : AluOp → R8 → Instr
  | .add, .b => .addA_B | .add, .c => .addA_C | .add, .d => .addA_D | .add, .e => .addA_E
  | .add, .h => .addA_H | .add, .l => .addA_L | .add, .hlInd => .addA_IndHL | .add, .a => .addA_A
  | .adc, .b => .adcA_B | .adc, .c => .adcA_C | .adc, .d => .adcA_D | .adc, .e => .adcA_E
  | .adc, .h => .adcA_H | .adc, .l => .adcA_L | .adc, .hlInd => .adcA_IndHL | .adc, .a => .adcA_A
  | .sub, .b => .subA_B | .sub, .c => .subA_C | .sub, .d => .subA_D | .sub, .e => .subA_E
  | .sub, .h => .subA_H | .sub, .l => .subA_L | .sub, .hlInd => .subA_IndHL | .sub, .a => .subA_A
  | .sbc, .b => .sbcA_B | .sbc, .c => .sbcA_C | .sbc, .d => .sbcA_D | .sbc, .e => .sbcA_E
  | .sbc, .h => .sbcA_H | .sbc, .l => .sbcA_L | .sbc, .hlInd => .sbcA_IndHL | .sbc, .a => .sbcA_A
  | .and, .b => .andA_B | .and, .c => .andA_C | .and, .d => .andA_D | .and, .e => .andA_E
  | .and, .h => .andA_H | .and, .l => .andA_L | .and, .hlInd => .andA_IndHL | .and, .a => .andA_A
  | .xor, .b => .xorA_B | .xor, .c => .xorA_C | .xor, .d => .xorA_D | .xor, .e => .xorA_E
  | .xor, .h => .xorA_H | .xor, .l => .xorA_L | .xor, .hlInd => .xorA_IndHL | .xor, .a => .xorA_A
  | .or, .b => .orA_B | .or, .c => .orA_C | .or, .d => .orA_D | .or, .e => .orA_E
  | .or, .h => .orA_H | .or, .l => .orA_L | .or, .hlInd => .orA_IndHL | .or, .a => .orA_A
  | .cp, .b => .cpA_B | .cp, .c => .cpA_C | .cp, .d => .cpA_D | .cp, .e => .cpA_E
  | .cp, .h => .cpA_H | .cp, .l => .cpA_L | .cp, .hlInd => .cpA_IndHL | .cp, .a => .cpA_A

/-- The rotate, shift or swap of an operand: CB 0x00 to 0x3F (R309). -/
def rotRow : RotOp → R8 → Instr
  | .rlc, .b => .rlcB | .rlc, .c => .rlcC | .rlc, .d => .rlcD | .rlc, .e => .rlcE
  | .rlc, .h => .rlcH | .rlc, .l => .rlcL | .rlc, .hlInd => .rlcIndHL | .rlc, .a => .rlcA
  | .rrc, .b => .rrcB | .rrc, .c => .rrcC | .rrc, .d => .rrcD | .rrc, .e => .rrcE
  | .rrc, .h => .rrcH | .rrc, .l => .rrcL | .rrc, .hlInd => .rrcIndHL | .rrc, .a => .rrcA
  | .rl, .b => .rlB | .rl, .c => .rlC | .rl, .d => .rlD | .rl, .e => .rlE
  | .rl, .h => .rlH | .rl, .l => .rlL | .rl, .hlInd => .rlIndHL | .rl, .a => .rlA
  | .rr, .b => .rrB | .rr, .c => .rrC | .rr, .d => .rrD | .rr, .e => .rrE
  | .rr, .h => .rrH | .rr, .l => .rrL | .rr, .hlInd => .rrIndHL | .rr, .a => .rrA
  | .sla, .b => .slaB | .sla, .c => .slaC | .sla, .d => .slaD | .sla, .e => .slaE
  | .sla, .h => .slaH | .sla, .l => .slaL | .sla, .hlInd => .slaIndHL | .sla, .a => .slaA
  | .sra, .b => .sraB | .sra, .c => .sraC | .sra, .d => .sraD | .sra, .e => .sraE
  | .sra, .h => .sraH | .sra, .l => .sraL | .sra, .hlInd => .sraIndHL | .sra, .a => .sraA
  | .swap, .b => .swapB | .swap, .c => .swapC | .swap, .d => .swapD | .swap, .e => .swapE
  | .swap, .h => .swapH | .swap, .l => .swapL | .swap, .hlInd => .swapIndHL | .swap, .a => .swapA
  | .srl, .b => .srlB | .srl, .c => .srlC | .srl, .d => .srlD | .srl, .e => .srlE
  | .srl, .h => .srlH | .srl, .l => .srlL | .srl, .hlInd => .srlIndHL | .srl, .a => .srlA

/-- `BIT b, R8[z]`: CB 0x40 to 0x7F (R309). -/
def bitRow : Fin 8 → R8 → Instr
  | 0, .b => .bit0_B | 0, .c => .bit0_C | 0, .d => .bit0_D | 0, .e => .bit0_E
  | 0, .h => .bit0_H | 0, .l => .bit0_L | 0, .hlInd => .bit0_IndHL | 0, .a => .bit0_A
  | 1, .b => .bit1_B | 1, .c => .bit1_C | 1, .d => .bit1_D | 1, .e => .bit1_E
  | 1, .h => .bit1_H | 1, .l => .bit1_L | 1, .hlInd => .bit1_IndHL | 1, .a => .bit1_A
  | 2, .b => .bit2_B | 2, .c => .bit2_C | 2, .d => .bit2_D | 2, .e => .bit2_E
  | 2, .h => .bit2_H | 2, .l => .bit2_L | 2, .hlInd => .bit2_IndHL | 2, .a => .bit2_A
  | 3, .b => .bit3_B | 3, .c => .bit3_C | 3, .d => .bit3_D | 3, .e => .bit3_E
  | 3, .h => .bit3_H | 3, .l => .bit3_L | 3, .hlInd => .bit3_IndHL | 3, .a => .bit3_A
  | 4, .b => .bit4_B | 4, .c => .bit4_C | 4, .d => .bit4_D | 4, .e => .bit4_E
  | 4, .h => .bit4_H | 4, .l => .bit4_L | 4, .hlInd => .bit4_IndHL | 4, .a => .bit4_A
  | 5, .b => .bit5_B | 5, .c => .bit5_C | 5, .d => .bit5_D | 5, .e => .bit5_E
  | 5, .h => .bit5_H | 5, .l => .bit5_L | 5, .hlInd => .bit5_IndHL | 5, .a => .bit5_A
  | 6, .b => .bit6_B | 6, .c => .bit6_C | 6, .d => .bit6_D | 6, .e => .bit6_E
  | 6, .h => .bit6_H | 6, .l => .bit6_L | 6, .hlInd => .bit6_IndHL | 6, .a => .bit6_A
  | 7, .b => .bit7_B | 7, .c => .bit7_C | 7, .d => .bit7_D | 7, .e => .bit7_E
  | 7, .h => .bit7_H | 7, .l => .bit7_L | 7, .hlInd => .bit7_IndHL | 7, .a => .bit7_A

/-- `RES b, R8[z]`: CB 0x80 to 0xBF (R309). -/
def resRow : Fin 8 → R8 → Instr
  | 0, .b => .res0_B | 0, .c => .res0_C | 0, .d => .res0_D | 0, .e => .res0_E
  | 0, .h => .res0_H | 0, .l => .res0_L | 0, .hlInd => .res0_IndHL | 0, .a => .res0_A
  | 1, .b => .res1_B | 1, .c => .res1_C | 1, .d => .res1_D | 1, .e => .res1_E
  | 1, .h => .res1_H | 1, .l => .res1_L | 1, .hlInd => .res1_IndHL | 1, .a => .res1_A
  | 2, .b => .res2_B | 2, .c => .res2_C | 2, .d => .res2_D | 2, .e => .res2_E
  | 2, .h => .res2_H | 2, .l => .res2_L | 2, .hlInd => .res2_IndHL | 2, .a => .res2_A
  | 3, .b => .res3_B | 3, .c => .res3_C | 3, .d => .res3_D | 3, .e => .res3_E
  | 3, .h => .res3_H | 3, .l => .res3_L | 3, .hlInd => .res3_IndHL | 3, .a => .res3_A
  | 4, .b => .res4_B | 4, .c => .res4_C | 4, .d => .res4_D | 4, .e => .res4_E
  | 4, .h => .res4_H | 4, .l => .res4_L | 4, .hlInd => .res4_IndHL | 4, .a => .res4_A
  | 5, .b => .res5_B | 5, .c => .res5_C | 5, .d => .res5_D | 5, .e => .res5_E
  | 5, .h => .res5_H | 5, .l => .res5_L | 5, .hlInd => .res5_IndHL | 5, .a => .res5_A
  | 6, .b => .res6_B | 6, .c => .res6_C | 6, .d => .res6_D | 6, .e => .res6_E
  | 6, .h => .res6_H | 6, .l => .res6_L | 6, .hlInd => .res6_IndHL | 6, .a => .res6_A
  | 7, .b => .res7_B | 7, .c => .res7_C | 7, .d => .res7_D | 7, .e => .res7_E
  | 7, .h => .res7_H | 7, .l => .res7_L | 7, .hlInd => .res7_IndHL | 7, .a => .res7_A

/-- `SET b, R8[z]`: CB 0xC0 to 0xFF (R309). -/
def setRow : Fin 8 → R8 → Instr
  | 0, .b => .set0_B | 0, .c => .set0_C | 0, .d => .set0_D | 0, .e => .set0_E
  | 0, .h => .set0_H | 0, .l => .set0_L | 0, .hlInd => .set0_IndHL | 0, .a => .set0_A
  | 1, .b => .set1_B | 1, .c => .set1_C | 1, .d => .set1_D | 1, .e => .set1_E
  | 1, .h => .set1_H | 1, .l => .set1_L | 1, .hlInd => .set1_IndHL | 1, .a => .set1_A
  | 2, .b => .set2_B | 2, .c => .set2_C | 2, .d => .set2_D | 2, .e => .set2_E
  | 2, .h => .set2_H | 2, .l => .set2_L | 2, .hlInd => .set2_IndHL | 2, .a => .set2_A
  | 3, .b => .set3_B | 3, .c => .set3_C | 3, .d => .set3_D | 3, .e => .set3_E
  | 3, .h => .set3_H | 3, .l => .set3_L | 3, .hlInd => .set3_IndHL | 3, .a => .set3_A
  | 4, .b => .set4_B | 4, .c => .set4_C | 4, .d => .set4_D | 4, .e => .set4_E
  | 4, .h => .set4_H | 4, .l => .set4_L | 4, .hlInd => .set4_IndHL | 4, .a => .set4_A
  | 5, .b => .set5_B | 5, .c => .set5_C | 5, .d => .set5_D | 5, .e => .set5_E
  | 5, .h => .set5_H | 5, .l => .set5_L | 5, .hlInd => .set5_IndHL | 5, .a => .set5_A
  | 6, .b => .set6_B | 6, .c => .set6_C | 6, .d => .set6_D | 6, .e => .set6_E
  | 6, .h => .set6_H | 6, .l => .set6_L | 6, .hlInd => .set6_IndHL | 6, .a => .set6_A
  | 7, .b => .set7_B | 7, .c => .set7_C | 7, .d => .set7_D | 7, .e => .set7_E
  | 7, .h => .set7_H | 7, .l => .set7_L | 7, .hlInd => .set7_IndHL | 7, .a => .set7_A

/-- `LD r,n8` and `LD (HL),n8` (R402, R405). -/
def ldN8Row : R8 → Byte → Instr
  | .b => .ldB_N8 | .c => .ldC_N8 | .d => .ldD_N8 | .e => .ldE_N8
  | .h => .ldH_N8 | .l => .ldL_N8 | .hlInd => .ldIndHL_N8 | .a => .ldA_N8

/-- `ALU[y] A, n8` (R308). -/
def aluN8Row : AluOp → Byte → Instr
  | .add => .addA_N8 | .adc => .adcA_N8 | .sub => .subA_N8 | .sbc => .sbcA_N8
  | .and => .andA_N8 | .xor => .xorA_N8 | .or => .orA_N8 | .cp => .cpA_N8

/-- `INC r` and `INC (HL)` (R462, R463). -/
def incRow : R8 → Instr
  | .b => .incB | .c => .incC | .d => .incD | .e => .incE
  | .h => .incH | .l => .incL | .hlInd => .incIndHL | .a => .incA

/-- `DEC r` and `DEC (HL)` (R464, R465). -/
def decRow : R8 → Instr
  | .b => .decB | .c => .decC | .d => .decD | .e => .decE
  | .h => .decH | .l => .decL | .hlInd => .decIndHL | .a => .decA

/-- `LD rr,n16` (R418). -/
def ldN16Row : R16 → Word → Instr
  | .bc => .ldBC_N16 | .de => .ldDE_N16 | .hl => .ldHL_N16 | .sp => .ldSP_N16

/-- `ADD HL,rr` (R501). -/
def addHLRow : R16 → Instr
  | .bc => .addHL_BC | .de => .addHL_DE | .hl => .addHL_HL | .sp => .addHL_SP

/-- `INC rr` (R502). -/
def incPairRow : R16 → Instr
  | .bc => .incBC | .de => .incDE | .hl => .incHL | .sp => .incSP

/-- `DEC rr` (R503). -/
def decPairRow : R16 → Instr
  | .bc => .decBC | .de => .decDE | .hl => .decHL | .sp => .decSP

/-- `PUSH qq` (R422). -/
def pushRow : R16P → Instr
  | .bc => .pushBC | .de => .pushDE | .hl => .pushHL | .af => .pushAF

/-- `POP qq` (R421). -/
def popRow : R16P → Instr
  | .bc => .popBC | .de => .popDE | .hl => .popHL | .af => .popAF

/-- `JP cc,a16` (R602). -/
def jpRow : Cond → Word → Instr
  | .nz => .jpNZ_A16 | .z => .jpZ_A16 | .nc => .jpNC_A16 | .c => .jpC_A16

/-- `JR cc,e8` (R605). -/
def jrRow : Cond → Byte → Instr
  | .nz => .jrNZ_E8 | .z => .jrZ_E8 | .nc => .jrNC_E8 | .c => .jrC_E8

/-- `CALL cc,a16` (R607). -/
def callRow : Cond → Word → Instr
  | .nz => .callNZ_A16 | .z => .callZ_A16 | .nc => .callNC_A16 | .c => .callC_A16

/-- `RET cc` (R609). -/
def retRow : Cond → Instr
  | .nz => .retNZ | .z => .retZ | .nc => .retNC | .c => .retC

/-- `RST 8y` (R610). -/
def rstRow : Fin 8 → Instr
  | 0 => .rst00 | 1 => .rst08 | 2 => .rst10 | 3 => .rst18
  | 4 => .rst20 | 5 => .rst28 | 6 => .rst30 | 7 => .rst38

/-! ### The base map -/

/-- A row of the base map: its format (R300) and, for every format but the prefix, the instruction its immediate gives. -/
inductive Row where
  | op (i : Instr)
  | n8 (f : Byte → Instr)
  | a8 (f : Byte → Instr)
  | e8 (f : Byte → Instr)
  | n16 (f : Word → Instr)
  | a16 (f : Word → Instr)
  | cb
  | x8 (i : Instr)

/-- Row 0x of the base map (R306). -/
def mapRow0 : List Row :=
  [.op .nop, .n16 .ldBC_N16, .op .ldIndBC_A, .op .incBC, .op .incB, .op .decB, .n8 .ldB_N8, .op .rlca,
   .a16 .ldIndA16_SP, .op .addHL_BC, .op .ldA_IndBC, .op .decBC, .op .incC, .op .decC, .n8 .ldC_N8, .op .rrca]

/-- Row 1x of the base map (R306). -/
def mapRow1 : List Row :=
  [.x8 .stop, .n16 .ldDE_N16, .op .ldIndDE_A, .op .incDE, .op .incD, .op .decD, .n8 .ldD_N8, .op .rla,
   .e8 .jrE8, .op .addHL_DE, .op .ldA_IndDE, .op .decDE, .op .incE, .op .decE, .n8 .ldE_N8, .op .rra]

/-- Row 2x of the base map (R306). -/
def mapRow2 : List Row :=
  [.e8 .jrNZ_E8, .n16 .ldHL_N16, .op .ldIndHLInc_A, .op .incHL, .op .incH, .op .decH, .n8 .ldH_N8, .op .daa,
   .e8 .jrZ_E8, .op .addHL_HL, .op .ldA_IndHLInc, .op .decHL, .op .incL, .op .decL, .n8 .ldL_N8, .op .cpl]

/-- Row 3x of the base map (R306). -/
def mapRow3 : List Row :=
  [.e8 .jrNC_E8, .n16 .ldSP_N16, .op .ldIndHLDec_A, .op .incSP, .op .incIndHL, .op .decIndHL, .n8 .ldIndHL_N8, .op .scf,
   .e8 .jrC_E8, .op .addHL_SP, .op .ldA_IndHLDec, .op .decSP, .op .incA, .op .decA, .n8 .ldA_N8, .op .ccf]

/-- Row Cx of the base map (R306). -/
def mapRowC : List Row :=
  [.op .retNZ, .op .popBC, .a16 .jpNZ_A16, .a16 .jpA16, .a16 .callNZ_A16, .op .pushBC, .n8 .addA_N8, .op .rst00,
   .op .retZ, .op .ret, .a16 .jpZ_A16, .cb, .a16 .callZ_A16, .a16 .callA16, .n8 .adcA_N8, .op .rst08]

/-- Row Dx of the base map (R306). -/
def mapRowD : List Row :=
  [.op .retNC, .op .popDE, .a16 .jpNC_A16, .op .undefinedD3, .a16 .callNC_A16, .op .pushDE, .n8 .subA_N8, .op .rst10,
   .op .retC, .op .reti, .a16 .jpC_A16, .op .undefinedDB, .a16 .callC_A16, .op .undefinedDD, .n8 .sbcA_N8, .op .rst18]

/-- Row Ex of the base map (R306). -/
def mapRowE : List Row :=
  [.a8 .ldhIndA8_A, .op .popHL, .op .ldIndC_A, .op .undefinedE3, .op .undefinedE4, .op .pushHL, .n8 .andA_N8, .op .rst20,
   .e8 .addSP_E8, .op .jpHL, .a16 .ldIndA16_A, .op .undefinedEB, .op .undefinedEC, .op .undefinedED, .n8 .xorA_N8, .op .rst28]

/-- Row Fx of the base map (R306). -/
def mapRowF : List Row :=
  [.a8 .ldhA_IndA8, .op .popAF, .op .ldA_IndC, .op .di, .op .undefinedF4, .op .pushAF, .n8 .orA_N8, .op .rst30,
   .e8 .ldHL_SPE8, .op .ldSP_HL, .a16 .ldA_IndA16, .op .ei, .op .undefinedFC, .op .undefinedFD, .n8 .cpA_N8, .op .rst38]

/-- The rows 0x to 3x and Cx to Fx of the base map by their high nibble; the rows between are the blocks x = 1 and x = 2. -/
def mapRow (hi : Nat) : List Row :=
  match hi with
  | 0x0 => mapRow0 | 0x1 => mapRow1 | 0x2 => mapRow2 | 0x3 => mapRow3
  | 0xC => mapRowC | 0xD => mapRowD | 0xE => mapRowE | 0xF => mapRowF
  | _ => []

/-- The row of an opcode byte: by its fields in the blocks x = 1 (R307) and x = 2 (R308), by the map otherwise (R306). -/
def baseRow (op : Byte) : Row :=
  match (fieldX op).toNat with
  | 1 => .op (ldRow (R8.ofField (fieldY op)) (R8.ofField (fieldZ op)))
  | 2 => .op (aluRow (AluOp.ofField (fieldY op)) (R8.ofField (fieldZ op)))
  | _ => (mapRow (op.toNat / 16)).getD (op.toNat % 16) (.op .nop)

/-- The instruction of a CB byte (R309): bits 7:6 select the group, bits 5:3 the operation or the bit index, bits 2:0 the operand. -/
def cbRow (cb : Byte) : Instr :=
  match (fieldX cb).toNat with
  | 0 => rotRow (RotOp.ofField (fieldY cb)) (R8.ofField (fieldZ cb))
  | 1 => bitRow (fieldY cb).toFin (R8.ofField (fieldZ cb))
  | 2 => resRow (fieldY cb).toFin (R8.ofField (fieldZ cb))
  | _ => setRow (fieldY cb).toFin (R8.ofField (fieldZ cb))

/-! ### Lengths -/

/-- `STOP_LENGTH` as a number of bytes. -/
def StopLength.bytes : StopLength → Nat
  | .one => 1
  | .two => 2

/-- The length of a format (R300). -/
def Row.length (sl : StopLength) : Row → Nat
  | .op _ => 1
  | .n8 _ | .a8 _ | .e8 _ | .cb => 2
  | .n16 _ | .a16 _ => 3
  | .x8 _ => sl.bytes

/-- The length of the instruction whose first byte is `op` (R312). -/
def instrLength (sl : StopLength) (op : Byte) : Nat := (baseRow op).length sl

/-! ### The decoder -/

/-- Why the decoder refuses: the list of bytes ends inside an instruction. No byte value is refused (R315). -/
inductive DecodeError where
  | truncated
  deriving DecidableEq, Repr

/-- The instruction at the front of a list of bytes, and the bytes after it (R300, R302, R311). STOP's second byte is ignored (R652). -/
def decode (sl : StopLength) : List Byte → Except DecodeError (Instr × List Byte)
  | [] => .error .truncated
  | op :: rest =>
    match baseRow op, rest with
    | .op i, rest => .ok (i, rest)
    | .n8 f, b1 :: rest => .ok (f b1, rest)
    | .a8 f, b1 :: rest => .ok (f b1, rest)
    | .e8 f, b1 :: rest => .ok (f b1, rest)
    | .n16 f, b1 :: b2 :: rest => .ok (f (join b2 b1), rest)
    | .a16 f, b1 :: b2 :: rest => .ok (f (join b2 b1), rest)
    | .cb, cb :: rest => .ok (cbRow cb, rest)
    | .x8 i, rest =>
      match sl, rest with
      | .one, rest => .ok (i, rest)
      | .two, _ :: rest => .ok (i, rest)
      | .two, [] => .error .truncated
    | _, _ => .error .truncated

/-! ### The encoder -/

/-- The bytes of an instruction (R300, R306, R309): immediate words low byte first (R302). The ignored byte of a two-byte STOP is written
as 0x00 (log 8). -/
def encode (sl : StopLength) : Instr → List Byte
  | .nop => [0x00]
  | .ldBC_N16 nn => [0x01, lo8 nn, hi8 nn]
  | .ldIndBC_A => [0x02]
  | .incBC => [0x03]
  | .incB => [0x04]
  | .decB => [0x05]
  | .ldB_N8 n => [0x06, n]
  | .rlca => [0x07]
  | .ldIndA16_SP aa => [0x08, lo8 aa, hi8 aa]
  | .addHL_BC => [0x09]
  | .ldA_IndBC => [0x0A]
  | .decBC => [0x0B]
  | .incC => [0x0C]
  | .decC => [0x0D]
  | .ldC_N8 n => [0x0E, n]
  | .rrca => [0x0F]
  | .stop => match sl with | .one => [0x10] | .two => [0x10, 0x00]
  | .ldDE_N16 nn => [0x11, lo8 nn, hi8 nn]
  | .ldIndDE_A => [0x12]
  | .incDE => [0x13]
  | .incD => [0x14]
  | .decD => [0x15]
  | .ldD_N8 n => [0x16, n]
  | .rla => [0x17]
  | .jrE8 e => [0x18, e]
  | .addHL_DE => [0x19]
  | .ldA_IndDE => [0x1A]
  | .decDE => [0x1B]
  | .incE => [0x1C]
  | .decE => [0x1D]
  | .ldE_N8 n => [0x1E, n]
  | .rra => [0x1F]
  | .jrNZ_E8 e => [0x20, e]
  | .ldHL_N16 nn => [0x21, lo8 nn, hi8 nn]
  | .ldIndHLInc_A => [0x22]
  | .incHL => [0x23]
  | .incH => [0x24]
  | .decH => [0x25]
  | .ldH_N8 n => [0x26, n]
  | .daa => [0x27]
  | .jrZ_E8 e => [0x28, e]
  | .addHL_HL => [0x29]
  | .ldA_IndHLInc => [0x2A]
  | .decHL => [0x2B]
  | .incL => [0x2C]
  | .decL => [0x2D]
  | .ldL_N8 n => [0x2E, n]
  | .cpl => [0x2F]
  | .jrNC_E8 e => [0x30, e]
  | .ldSP_N16 nn => [0x31, lo8 nn, hi8 nn]
  | .ldIndHLDec_A => [0x32]
  | .incSP => [0x33]
  | .incIndHL => [0x34]
  | .decIndHL => [0x35]
  | .ldIndHL_N8 n => [0x36, n]
  | .scf => [0x37]
  | .jrC_E8 e => [0x38, e]
  | .addHL_SP => [0x39]
  | .ldA_IndHLDec => [0x3A]
  | .decSP => [0x3B]
  | .incA => [0x3C]
  | .decA => [0x3D]
  | .ldA_N8 n => [0x3E, n]
  | .ccf => [0x3F]
  | .ldB_B => [0x40]
  | .ldB_C => [0x41]
  | .ldB_D => [0x42]
  | .ldB_E => [0x43]
  | .ldB_H => [0x44]
  | .ldB_L => [0x45]
  | .ldB_IndHL => [0x46]
  | .ldB_A => [0x47]
  | .ldC_B => [0x48]
  | .ldC_C => [0x49]
  | .ldC_D => [0x4A]
  | .ldC_E => [0x4B]
  | .ldC_H => [0x4C]
  | .ldC_L => [0x4D]
  | .ldC_IndHL => [0x4E]
  | .ldC_A => [0x4F]
  | .ldD_B => [0x50]
  | .ldD_C => [0x51]
  | .ldD_D => [0x52]
  | .ldD_E => [0x53]
  | .ldD_H => [0x54]
  | .ldD_L => [0x55]
  | .ldD_IndHL => [0x56]
  | .ldD_A => [0x57]
  | .ldE_B => [0x58]
  | .ldE_C => [0x59]
  | .ldE_D => [0x5A]
  | .ldE_E => [0x5B]
  | .ldE_H => [0x5C]
  | .ldE_L => [0x5D]
  | .ldE_IndHL => [0x5E]
  | .ldE_A => [0x5F]
  | .ldH_B => [0x60]
  | .ldH_C => [0x61]
  | .ldH_D => [0x62]
  | .ldH_E => [0x63]
  | .ldH_H => [0x64]
  | .ldH_L => [0x65]
  | .ldH_IndHL => [0x66]
  | .ldH_A => [0x67]
  | .ldL_B => [0x68]
  | .ldL_C => [0x69]
  | .ldL_D => [0x6A]
  | .ldL_E => [0x6B]
  | .ldL_H => [0x6C]
  | .ldL_L => [0x6D]
  | .ldL_IndHL => [0x6E]
  | .ldL_A => [0x6F]
  | .ldIndHL_B => [0x70]
  | .ldIndHL_C => [0x71]
  | .ldIndHL_D => [0x72]
  | .ldIndHL_E => [0x73]
  | .ldIndHL_H => [0x74]
  | .ldIndHL_L => [0x75]
  | .halt => [0x76]
  | .ldIndHL_A => [0x77]
  | .ldA_B => [0x78]
  | .ldA_C => [0x79]
  | .ldA_D => [0x7A]
  | .ldA_E => [0x7B]
  | .ldA_H => [0x7C]
  | .ldA_L => [0x7D]
  | .ldA_IndHL => [0x7E]
  | .ldA_A => [0x7F]
  | .addA_B => [0x80]
  | .addA_C => [0x81]
  | .addA_D => [0x82]
  | .addA_E => [0x83]
  | .addA_H => [0x84]
  | .addA_L => [0x85]
  | .addA_IndHL => [0x86]
  | .addA_A => [0x87]
  | .adcA_B => [0x88]
  | .adcA_C => [0x89]
  | .adcA_D => [0x8A]
  | .adcA_E => [0x8B]
  | .adcA_H => [0x8C]
  | .adcA_L => [0x8D]
  | .adcA_IndHL => [0x8E]
  | .adcA_A => [0x8F]
  | .subA_B => [0x90]
  | .subA_C => [0x91]
  | .subA_D => [0x92]
  | .subA_E => [0x93]
  | .subA_H => [0x94]
  | .subA_L => [0x95]
  | .subA_IndHL => [0x96]
  | .subA_A => [0x97]
  | .sbcA_B => [0x98]
  | .sbcA_C => [0x99]
  | .sbcA_D => [0x9A]
  | .sbcA_E => [0x9B]
  | .sbcA_H => [0x9C]
  | .sbcA_L => [0x9D]
  | .sbcA_IndHL => [0x9E]
  | .sbcA_A => [0x9F]
  | .andA_B => [0xA0]
  | .andA_C => [0xA1]
  | .andA_D => [0xA2]
  | .andA_E => [0xA3]
  | .andA_H => [0xA4]
  | .andA_L => [0xA5]
  | .andA_IndHL => [0xA6]
  | .andA_A => [0xA7]
  | .xorA_B => [0xA8]
  | .xorA_C => [0xA9]
  | .xorA_D => [0xAA]
  | .xorA_E => [0xAB]
  | .xorA_H => [0xAC]
  | .xorA_L => [0xAD]
  | .xorA_IndHL => [0xAE]
  | .xorA_A => [0xAF]
  | .orA_B => [0xB0]
  | .orA_C => [0xB1]
  | .orA_D => [0xB2]
  | .orA_E => [0xB3]
  | .orA_H => [0xB4]
  | .orA_L => [0xB5]
  | .orA_IndHL => [0xB6]
  | .orA_A => [0xB7]
  | .cpA_B => [0xB8]
  | .cpA_C => [0xB9]
  | .cpA_D => [0xBA]
  | .cpA_E => [0xBB]
  | .cpA_H => [0xBC]
  | .cpA_L => [0xBD]
  | .cpA_IndHL => [0xBE]
  | .cpA_A => [0xBF]
  | .retNZ => [0xC0]
  | .popBC => [0xC1]
  | .jpNZ_A16 aa => [0xC2, lo8 aa, hi8 aa]
  | .jpA16 aa => [0xC3, lo8 aa, hi8 aa]
  | .callNZ_A16 aa => [0xC4, lo8 aa, hi8 aa]
  | .pushBC => [0xC5]
  | .addA_N8 n => [0xC6, n]
  | .rst00 => [0xC7]
  | .retZ => [0xC8]
  | .ret => [0xC9]
  | .jpZ_A16 aa => [0xCA, lo8 aa, hi8 aa]
  | .prefixCb cb => [0xCB, cb]
  | .callZ_A16 aa => [0xCC, lo8 aa, hi8 aa]
  | .callA16 aa => [0xCD, lo8 aa, hi8 aa]
  | .adcA_N8 n => [0xCE, n]
  | .rst08 => [0xCF]
  | .retNC => [0xD0]
  | .popDE => [0xD1]
  | .jpNC_A16 aa => [0xD2, lo8 aa, hi8 aa]
  | .undefinedD3 => [0xD3]
  | .callNC_A16 aa => [0xD4, lo8 aa, hi8 aa]
  | .pushDE => [0xD5]
  | .subA_N8 n => [0xD6, n]
  | .rst10 => [0xD7]
  | .retC => [0xD8]
  | .reti => [0xD9]
  | .jpC_A16 aa => [0xDA, lo8 aa, hi8 aa]
  | .undefinedDB => [0xDB]
  | .callC_A16 aa => [0xDC, lo8 aa, hi8 aa]
  | .undefinedDD => [0xDD]
  | .sbcA_N8 n => [0xDE, n]
  | .rst18 => [0xDF]
  | .ldhIndA8_A a => [0xE0, a]
  | .popHL => [0xE1]
  | .ldIndC_A => [0xE2]
  | .undefinedE3 => [0xE3]
  | .undefinedE4 => [0xE4]
  | .pushHL => [0xE5]
  | .andA_N8 n => [0xE6, n]
  | .rst20 => [0xE7]
  | .addSP_E8 e => [0xE8, e]
  | .jpHL => [0xE9]
  | .ldIndA16_A aa => [0xEA, lo8 aa, hi8 aa]
  | .undefinedEB => [0xEB]
  | .undefinedEC => [0xEC]
  | .undefinedED => [0xED]
  | .xorA_N8 n => [0xEE, n]
  | .rst28 => [0xEF]
  | .ldhA_IndA8 a => [0xF0, a]
  | .popAF => [0xF1]
  | .ldA_IndC => [0xF2]
  | .di => [0xF3]
  | .undefinedF4 => [0xF4]
  | .pushAF => [0xF5]
  | .orA_N8 n => [0xF6, n]
  | .rst30 => [0xF7]
  | .ldHL_SPE8 e => [0xF8, e]
  | .ldSP_HL => [0xF9]
  | .ldA_IndA16 aa => [0xFA, lo8 aa, hi8 aa]
  | .ei => [0xFB]
  | .undefinedFC => [0xFC]
  | .undefinedFD => [0xFD]
  | .cpA_N8 n => [0xFE, n]
  | .rst38 => [0xFF]
  | .rlcB => [0xCB, 0x00]
  | .rlcC => [0xCB, 0x01]
  | .rlcD => [0xCB, 0x02]
  | .rlcE => [0xCB, 0x03]
  | .rlcH => [0xCB, 0x04]
  | .rlcL => [0xCB, 0x05]
  | .rlcIndHL => [0xCB, 0x06]
  | .rlcA => [0xCB, 0x07]
  | .rrcB => [0xCB, 0x08]
  | .rrcC => [0xCB, 0x09]
  | .rrcD => [0xCB, 0x0A]
  | .rrcE => [0xCB, 0x0B]
  | .rrcH => [0xCB, 0x0C]
  | .rrcL => [0xCB, 0x0D]
  | .rrcIndHL => [0xCB, 0x0E]
  | .rrcA => [0xCB, 0x0F]
  | .rlB => [0xCB, 0x10]
  | .rlC => [0xCB, 0x11]
  | .rlD => [0xCB, 0x12]
  | .rlE => [0xCB, 0x13]
  | .rlH => [0xCB, 0x14]
  | .rlL => [0xCB, 0x15]
  | .rlIndHL => [0xCB, 0x16]
  | .rlA => [0xCB, 0x17]
  | .rrB => [0xCB, 0x18]
  | .rrC => [0xCB, 0x19]
  | .rrD => [0xCB, 0x1A]
  | .rrE => [0xCB, 0x1B]
  | .rrH => [0xCB, 0x1C]
  | .rrL => [0xCB, 0x1D]
  | .rrIndHL => [0xCB, 0x1E]
  | .rrA => [0xCB, 0x1F]
  | .slaB => [0xCB, 0x20]
  | .slaC => [0xCB, 0x21]
  | .slaD => [0xCB, 0x22]
  | .slaE => [0xCB, 0x23]
  | .slaH => [0xCB, 0x24]
  | .slaL => [0xCB, 0x25]
  | .slaIndHL => [0xCB, 0x26]
  | .slaA => [0xCB, 0x27]
  | .sraB => [0xCB, 0x28]
  | .sraC => [0xCB, 0x29]
  | .sraD => [0xCB, 0x2A]
  | .sraE => [0xCB, 0x2B]
  | .sraH => [0xCB, 0x2C]
  | .sraL => [0xCB, 0x2D]
  | .sraIndHL => [0xCB, 0x2E]
  | .sraA => [0xCB, 0x2F]
  | .swapB => [0xCB, 0x30]
  | .swapC => [0xCB, 0x31]
  | .swapD => [0xCB, 0x32]
  | .swapE => [0xCB, 0x33]
  | .swapH => [0xCB, 0x34]
  | .swapL => [0xCB, 0x35]
  | .swapIndHL => [0xCB, 0x36]
  | .swapA => [0xCB, 0x37]
  | .srlB => [0xCB, 0x38]
  | .srlC => [0xCB, 0x39]
  | .srlD => [0xCB, 0x3A]
  | .srlE => [0xCB, 0x3B]
  | .srlH => [0xCB, 0x3C]
  | .srlL => [0xCB, 0x3D]
  | .srlIndHL => [0xCB, 0x3E]
  | .srlA => [0xCB, 0x3F]
  | .bit0_B => [0xCB, 0x40]
  | .bit0_C => [0xCB, 0x41]
  | .bit0_D => [0xCB, 0x42]
  | .bit0_E => [0xCB, 0x43]
  | .bit0_H => [0xCB, 0x44]
  | .bit0_L => [0xCB, 0x45]
  | .bit0_IndHL => [0xCB, 0x46]
  | .bit0_A => [0xCB, 0x47]
  | .bit1_B => [0xCB, 0x48]
  | .bit1_C => [0xCB, 0x49]
  | .bit1_D => [0xCB, 0x4A]
  | .bit1_E => [0xCB, 0x4B]
  | .bit1_H => [0xCB, 0x4C]
  | .bit1_L => [0xCB, 0x4D]
  | .bit1_IndHL => [0xCB, 0x4E]
  | .bit1_A => [0xCB, 0x4F]
  | .bit2_B => [0xCB, 0x50]
  | .bit2_C => [0xCB, 0x51]
  | .bit2_D => [0xCB, 0x52]
  | .bit2_E => [0xCB, 0x53]
  | .bit2_H => [0xCB, 0x54]
  | .bit2_L => [0xCB, 0x55]
  | .bit2_IndHL => [0xCB, 0x56]
  | .bit2_A => [0xCB, 0x57]
  | .bit3_B => [0xCB, 0x58]
  | .bit3_C => [0xCB, 0x59]
  | .bit3_D => [0xCB, 0x5A]
  | .bit3_E => [0xCB, 0x5B]
  | .bit3_H => [0xCB, 0x5C]
  | .bit3_L => [0xCB, 0x5D]
  | .bit3_IndHL => [0xCB, 0x5E]
  | .bit3_A => [0xCB, 0x5F]
  | .bit4_B => [0xCB, 0x60]
  | .bit4_C => [0xCB, 0x61]
  | .bit4_D => [0xCB, 0x62]
  | .bit4_E => [0xCB, 0x63]
  | .bit4_H => [0xCB, 0x64]
  | .bit4_L => [0xCB, 0x65]
  | .bit4_IndHL => [0xCB, 0x66]
  | .bit4_A => [0xCB, 0x67]
  | .bit5_B => [0xCB, 0x68]
  | .bit5_C => [0xCB, 0x69]
  | .bit5_D => [0xCB, 0x6A]
  | .bit5_E => [0xCB, 0x6B]
  | .bit5_H => [0xCB, 0x6C]
  | .bit5_L => [0xCB, 0x6D]
  | .bit5_IndHL => [0xCB, 0x6E]
  | .bit5_A => [0xCB, 0x6F]
  | .bit6_B => [0xCB, 0x70]
  | .bit6_C => [0xCB, 0x71]
  | .bit6_D => [0xCB, 0x72]
  | .bit6_E => [0xCB, 0x73]
  | .bit6_H => [0xCB, 0x74]
  | .bit6_L => [0xCB, 0x75]
  | .bit6_IndHL => [0xCB, 0x76]
  | .bit6_A => [0xCB, 0x77]
  | .bit7_B => [0xCB, 0x78]
  | .bit7_C => [0xCB, 0x79]
  | .bit7_D => [0xCB, 0x7A]
  | .bit7_E => [0xCB, 0x7B]
  | .bit7_H => [0xCB, 0x7C]
  | .bit7_L => [0xCB, 0x7D]
  | .bit7_IndHL => [0xCB, 0x7E]
  | .bit7_A => [0xCB, 0x7F]
  | .res0_B => [0xCB, 0x80]
  | .res0_C => [0xCB, 0x81]
  | .res0_D => [0xCB, 0x82]
  | .res0_E => [0xCB, 0x83]
  | .res0_H => [0xCB, 0x84]
  | .res0_L => [0xCB, 0x85]
  | .res0_IndHL => [0xCB, 0x86]
  | .res0_A => [0xCB, 0x87]
  | .res1_B => [0xCB, 0x88]
  | .res1_C => [0xCB, 0x89]
  | .res1_D => [0xCB, 0x8A]
  | .res1_E => [0xCB, 0x8B]
  | .res1_H => [0xCB, 0x8C]
  | .res1_L => [0xCB, 0x8D]
  | .res1_IndHL => [0xCB, 0x8E]
  | .res1_A => [0xCB, 0x8F]
  | .res2_B => [0xCB, 0x90]
  | .res2_C => [0xCB, 0x91]
  | .res2_D => [0xCB, 0x92]
  | .res2_E => [0xCB, 0x93]
  | .res2_H => [0xCB, 0x94]
  | .res2_L => [0xCB, 0x95]
  | .res2_IndHL => [0xCB, 0x96]
  | .res2_A => [0xCB, 0x97]
  | .res3_B => [0xCB, 0x98]
  | .res3_C => [0xCB, 0x99]
  | .res3_D => [0xCB, 0x9A]
  | .res3_E => [0xCB, 0x9B]
  | .res3_H => [0xCB, 0x9C]
  | .res3_L => [0xCB, 0x9D]
  | .res3_IndHL => [0xCB, 0x9E]
  | .res3_A => [0xCB, 0x9F]
  | .res4_B => [0xCB, 0xA0]
  | .res4_C => [0xCB, 0xA1]
  | .res4_D => [0xCB, 0xA2]
  | .res4_E => [0xCB, 0xA3]
  | .res4_H => [0xCB, 0xA4]
  | .res4_L => [0xCB, 0xA5]
  | .res4_IndHL => [0xCB, 0xA6]
  | .res4_A => [0xCB, 0xA7]
  | .res5_B => [0xCB, 0xA8]
  | .res5_C => [0xCB, 0xA9]
  | .res5_D => [0xCB, 0xAA]
  | .res5_E => [0xCB, 0xAB]
  | .res5_H => [0xCB, 0xAC]
  | .res5_L => [0xCB, 0xAD]
  | .res5_IndHL => [0xCB, 0xAE]
  | .res5_A => [0xCB, 0xAF]
  | .res6_B => [0xCB, 0xB0]
  | .res6_C => [0xCB, 0xB1]
  | .res6_D => [0xCB, 0xB2]
  | .res6_E => [0xCB, 0xB3]
  | .res6_H => [0xCB, 0xB4]
  | .res6_L => [0xCB, 0xB5]
  | .res6_IndHL => [0xCB, 0xB6]
  | .res6_A => [0xCB, 0xB7]
  | .res7_B => [0xCB, 0xB8]
  | .res7_C => [0xCB, 0xB9]
  | .res7_D => [0xCB, 0xBA]
  | .res7_E => [0xCB, 0xBB]
  | .res7_H => [0xCB, 0xBC]
  | .res7_L => [0xCB, 0xBD]
  | .res7_IndHL => [0xCB, 0xBE]
  | .res7_A => [0xCB, 0xBF]
  | .set0_B => [0xCB, 0xC0]
  | .set0_C => [0xCB, 0xC1]
  | .set0_D => [0xCB, 0xC2]
  | .set0_E => [0xCB, 0xC3]
  | .set0_H => [0xCB, 0xC4]
  | .set0_L => [0xCB, 0xC5]
  | .set0_IndHL => [0xCB, 0xC6]
  | .set0_A => [0xCB, 0xC7]
  | .set1_B => [0xCB, 0xC8]
  | .set1_C => [0xCB, 0xC9]
  | .set1_D => [0xCB, 0xCA]
  | .set1_E => [0xCB, 0xCB]
  | .set1_H => [0xCB, 0xCC]
  | .set1_L => [0xCB, 0xCD]
  | .set1_IndHL => [0xCB, 0xCE]
  | .set1_A => [0xCB, 0xCF]
  | .set2_B => [0xCB, 0xD0]
  | .set2_C => [0xCB, 0xD1]
  | .set2_D => [0xCB, 0xD2]
  | .set2_E => [0xCB, 0xD3]
  | .set2_H => [0xCB, 0xD4]
  | .set2_L => [0xCB, 0xD5]
  | .set2_IndHL => [0xCB, 0xD6]
  | .set2_A => [0xCB, 0xD7]
  | .set3_B => [0xCB, 0xD8]
  | .set3_C => [0xCB, 0xD9]
  | .set3_D => [0xCB, 0xDA]
  | .set3_E => [0xCB, 0xDB]
  | .set3_H => [0xCB, 0xDC]
  | .set3_L => [0xCB, 0xDD]
  | .set3_IndHL => [0xCB, 0xDE]
  | .set3_A => [0xCB, 0xDF]
  | .set4_B => [0xCB, 0xE0]
  | .set4_C => [0xCB, 0xE1]
  | .set4_D => [0xCB, 0xE2]
  | .set4_E => [0xCB, 0xE3]
  | .set4_H => [0xCB, 0xE4]
  | .set4_L => [0xCB, 0xE5]
  | .set4_IndHL => [0xCB, 0xE6]
  | .set4_A => [0xCB, 0xE7]
  | .set5_B => [0xCB, 0xE8]
  | .set5_C => [0xCB, 0xE9]
  | .set5_D => [0xCB, 0xEA]
  | .set5_E => [0xCB, 0xEB]
  | .set5_H => [0xCB, 0xEC]
  | .set5_L => [0xCB, 0xED]
  | .set5_IndHL => [0xCB, 0xEE]
  | .set5_A => [0xCB, 0xEF]
  | .set6_B => [0xCB, 0xF0]
  | .set6_C => [0xCB, 0xF1]
  | .set6_D => [0xCB, 0xF2]
  | .set6_E => [0xCB, 0xF3]
  | .set6_H => [0xCB, 0xF4]
  | .set6_L => [0xCB, 0xF5]
  | .set6_IndHL => [0xCB, 0xF6]
  | .set6_A => [0xCB, 0xF7]
  | .set7_B => [0xCB, 0xF8]
  | .set7_C => [0xCB, 0xF9]
  | .set7_D => [0xCB, 0xFA]
  | .set7_E => [0xCB, 0xFB]
  | .set7_H => [0xCB, 0xFC]
  | .set7_L => [0xCB, 0xFD]
  | .set7_IndHL => [0xCB, 0xFE]
  | .set7_A => [0xCB, 0xFF]

/-! ### The table's numbering -/

/-- The three bytes of an instruction whose bits are `w`, numbered as the opcode table numbers them: the first byte is bits 7:0. Bits at
and above `nbits` are 0. -/
def tableBytes (nbits w : Nat) : List Byte :=
  let v := w % 2 ^ nbits
  [BitVec.ofNat 8 v, BitVec.ofNat 8 (v / 256), BitVec.ofNat 8 (v / 65536)]

/-- What the decoder reads from an instruction of the table's numbering (STOP_LENGTH at its default, R10). The table numbers the bits of a
CB row from its CB byte and gives the prefix 0xCB apart, so such a row's own words begin with the byte 0xCB (log 15). -/
def decodeTableWord (nbits w : Nat) : Option Instr :=
  match decode .two (tableBytes nbits w) with
  | .ok (i, _) => some i
  | .error _ => none

end Sys2Proof
end

