-- ==== Sys2Proof/Machine/State.lean ====
section
/-! DEFINITION. The state of the block as plain data (R117, R118), grouped by its units (R1), the reasons a step can stop, and the state
after reset. -/

namespace Sys2Proof.Machine

/-- The faults of R760: each ends the step and is sticky. SAFE: the spec gives the machine no step after one. -/
inductive Fault where
  /-- Raised by DAA when no row of its table matches and `DAA_MISS_POLICY = Fault` (R467). Safe. -/
  | daaTableMiss
  /-- Raised by an undefined opcode when `INVALID_OPCODE_POLICY = Fault` (R655). Safe. -/
  | invalidOpcode (op : Byte)
  deriving DecidableEq, Repr

/-- Why the model answers with no meaning. -/
inductive Refusal where
  /-- Raised by `exec` for an instruction not modelled yet. Safe. No arm raises it now. -/
  | notModelled (mnemonic : String)
  /-- Raised by `step` if the fetched bytes did not decode, which never happens: the fetch reads as many bytes as the length of the
  first one (R311, R315). Safe. -/
  | undecodable
  /-- Raised by the external event `raise` for a request bit other than 3 and 4 (R711, U21). Safe. -/
  | raiseLine
  /-- Raised by `resetWith` for `RESET_PROFILE = BootRom` with `BOOT_ROM` absent (R203, U20). Safe. -/
  | bootRomAbsent
  deriving DecidableEq, Repr

/-- The flags Z, N, Hf and Cy (R102). -/
structure Flags where
  z : Bool
  n : Bool
  h : Bool
  c : Bool
  deriving DecidableEq, Repr

/-- The register file, SP and PC (R100, R105, R106). F is the flags; its byte form is computed (R102). -/
structure Regs where
  a : Byte
  b : Byte
  c : Byte
  d : Byte
  e : Byte
  h : Byte
  l : Byte
  flags : Flags
  sp : Word
  pc : Word
  deriving DecidableEq, Repr

/-- The interrupt controller (R107). -/
structure Interrupts where
  /-- IE, the enabled-mask: all 8 bits are stored (R217). -/
  ie : Byte
  /-- IF, the requested-mask (R214). -/
  iflag : BitVec 5
  /-- IME, the master-enable flag. -/
  ime : Bool
  /-- The value IME takes at the start of the next step (R703). -/
  imeDelayed : Option Bool
  /-- The value an EI or DI of this step requested (R703). -/
  imeRequest : Option Bool
  deriving DecidableEq, Repr

/-- The timer and divider (R111). -/
structure Timer where
  div : Byte
  divAcc : Nat
  tima : Byte
  tma : Byte
  /-- TAC: bit 2 enables the counter, bits 1:0 select the divisor. -/
  tac : BitVec 3
  timaAcc : Nat
  deriving DecidableEq, Repr

/-- The phases of the display (R112). -/
inductive Mode where
  | oamScan | transfer | hBlank | vBlank
  deriving DecidableEq, Repr

/-- The display timing state and registers (R112, R113). -/
structure Display where
  lcdc : Byte
  /-- The STAT enables, STAT bits 6:3: LYC, OAM, VBlank and HBlank, from bit 3 down to bit 0. -/
  statEn : BitVec 4
  mode : Mode
  phaseTicks : Nat
  ly : Byte
  lyc : Byte
  coincidence : Bool
  scy : Byte
  scx : Byte
  bgp : Byte
  obp0 : Byte
  obp1 : Byte
  wy : Byte
  wx : Byte
  deriving DecidableEq, Repr

/-- Bytes at addresses, in one canonical form: addresses strictly rising (log 4). -/
abbrev Memory := List Host.Cell

/-- The cartridge provider's state σc (R14, log 2): the bytes a flat provider holds, by bus address; the cells of a named one, by number
(log 17); and the accesses that an unnamed one received or that were answered freely, newest first. -/
structure Cart where
  image : Memory
  cells : Memory
  events : List BusEvent
  deriving DecidableEq, Repr

/-- The external peripherals' state σx (R15, log 3): the cells of named ones (log 17), and the accesses to unnamed ones, newest first. -/
structure Peripherals where
  cells : Memory
  events : List BusEvent
  deriving DecidableEq, Repr

/-- The outputs of a step (R13, R710): the MODEL's own field (log 7). -/
structure StepOut where
  ticks : Nat
  dispatched : Bool
  statNote : Bool
  vblankNote : Bool
  deriving DecidableEq, Repr

/-- The state of the block with its collaborators' (R117, R700). -/
structure State where
  /-- The parameters of R10: no step changes them (log 1). -/
  cfg : Params
  regs : Regs
  irq : Interrupts
  halted : Bool
  fault : Option Fault
  timer : Timer
  disp : Display
  /-- The last value written to the DMA trigger register (R220). -/
  dma : Byte
  bootOverlay : Bool
  /-- VRAM, WRAM, OAM and HRAM by bus address (R115); an unlisted byte still holds `RAM_INIT` (R803, log 4). -/
  mem : Memory
  cart : Cart
  ext : Peripherals
  out : StepOut
  deriving DecidableEq, Repr

/-- What an instruction, and a step, answers. -/
abbrev Result := Host.Outcome State Fault Refusal

/-- The outputs before any step (log 7). -/
def StepOut.none : StepOut := ⟨0, false, false, false⟩

/-- The state right after reset: profile PostBoot with every parameter of R10 at its default (R117, R801, log 11). -/
def State.reset : State where
  cfg := Params.default
  regs :=
    { a := 0x01, b := 0x00, c := 0x13, d := 0x00, e := 0xD8, h := 0x01, l := 0x4D
      flags := ⟨true, false, true, true⟩, sp := 0xFFFE, pc := 0x0100 }
  irq := { ie := 0x00, iflag := 0b00001, ime := false, imeDelayed := Option.none, imeRequest := Option.none }
  halted := false
  fault := Option.none
  timer := { div := 0xAB, divAcc := 0, tima := 0x00, tma := 0x00, tac := 0b000, timaAcc := 0 }
  disp :=
    { lcdc := 0x91, statEn := 0b0000, mode := .oamScan, phaseTicks := 0, ly := 0, lyc := 0x00, coincidence := true
      scy := 0x00, scx := 0x00, bgp := 0xFC, obp0 := 0xFF, obp1 := 0xFF, wy := 0x00, wx := 0x00 }
  dma := 0xFF
  bootOverlay := false
  mem := []
  cart := ⟨[], [], []⟩
  ext := ⟨[], []⟩
  out := StepOut.none

end Sys2Proof.Machine
end

