-- ==== Sys2Proof/Machine/Flags.lean ====
section
/-! DEFINITION. Every flag computation: the byte form of the flags (R102) and the result and flags of each arithmetic operation, computed
exactly on numbers and narrowed at the end (R16). -/

namespace Sys2Proof.Machine

/-! ### The byte form of the flags (R102) -/

/-- F: Z, N, Hf and Cy in bits 7 to 4, and 0 in bits 3:0. -/
def Flags.toByte (f : Flags) : Byte :=
  BitVec.ofBool f.z ++ BitVec.ofBool f.n ++ BitVec.ofBool f.h ++ BitVec.ofBool f.c ++ 0b0000#4

/-- `F <- v`: bits 3:0 of `v` are discarded. -/
def Flags.ofByte (v : Byte) : Flags := ⟨v.getLsbD 7, v.getLsbD 6, v.getLsbD 5, v.getLsbD 4⟩

/-! ### 8-bit arithmetic and logic (41_alu8.md) -/

/-- `Add8(a, b, cin)` (R451). -/
def add8 (a b : Byte) (cin : Bool) : Byte × Flags :=
  let s := a.toNat + b.toNat + cin.toNat
  let r := BitVec.ofNat 8 s
  (r, { z := r == 0, n := false, h := decide (a.toNat % 16 + b.toNat % 16 + cin.toNat > 0xF), c := decide (s > 0xFF) })

/-- `Sub8(a, b, cin)` (R452). -/
def sub8 (a b : Byte) (cin : Bool) : Byte × Flags :=
  let d : Int := (a.toNat : Int) - (b.toNat : Int) - (cin.toNat : Int)
  let r := BitVec.ofInt 8 d
  (r, { z := r == 0, n := true, h := decide (a.toNat % 16 < b.toNat % 16 + cin.toNat), c := decide (a.toNat < b.toNat + cin.toNat) })

/-- `Logic8(AND, a, b)` (R453). -/
def and8 (a b : Byte) : Byte × Flags := let r := a &&& b; (r, ⟨r == 0, false, true, false⟩)

/-- `Logic8(OR, a, b)` (R453). -/
def or8 (a b : Byte) : Byte × Flags := let r := a ||| b; (r, ⟨r == 0, false, false, false⟩)

/-- `Logic8(XOR, a, b)` (R453). -/
def xor8 (a b : Byte) : Byte × Flags := let r := a ^^^ b; (r, ⟨r == 0, false, false, false⟩)

/-- What `ALU[y]` leaves in A, and the flags (R454 to R461): CP computes as SUB does and leaves A. -/
def aluResult (op : AluOp) (a src : Byte) (cy : Bool) : Byte × Flags :=
  match op with
  | .add => add8 a src false
  | .adc => add8 a src cy
  | .sub => sub8 a src false
  | .sbc => sub8 a src cy
  | .and => and8 a src
  | .xor => xor8 a src
  | .or => or8 a src
  | .cp => (a, (sub8 a src false).2)

/-- 8-bit increment: Cy is kept (R462). -/
def inc8 (v : Byte) (f : Flags) : Byte × Flags :=
  let r := BitVec.ofNat 8 (v.toNat + 1)
  (r, { z := r == 0, n := false, h := v.toNat % 16 == 0xF, c := f.c })

/-- 8-bit decrement: Cy is kept (R464). -/
def dec8 (v : Byte) (f : Flags) : Byte × Flags :=
  let r := BitVec.ofInt 8 ((v.toNat : Int) - 1)
  (r, { z := r == 0, n := true, h := v.toNat % 16 == 0x0, c := f.c })

/-! ### Decimal adjust (R466, R467) -/

/-- A row of the decimal-adjust table (R466). -/
structure DaaRow where
  n : Bool
  cy : Bool
  upperLo : Nat
  upperHi : Nat
  hf : Bool
  lowerLo : Nat
  lowerHi : Nat
  add : Byte
  cyAfter : Bool
  deriving DecidableEq, Repr

/-- Rows 1 to 6 of the table: N = 0, Cy = 0. -/
def daaAddRows : List DaaRow :=
  [⟨false, false, 0x0, 0x9, false, 0x0, 0x9, 0x00, false⟩,
   ⟨false, false, 0x0, 0x8, false, 0xA, 0xF, 0x06, false⟩,
   ⟨false, false, 0x0, 0x9, true, 0x0, 0x3, 0x06, false⟩,
   ⟨false, false, 0xA, 0xF, false, 0x0, 0x9, 0x60, true⟩,
   ⟨false, false, 0x9, 0xF, false, 0xA, 0xF, 0x66, true⟩,
   ⟨false, false, 0xA, 0xF, true, 0x0, 0x3, 0x66, true⟩]

/-- Rows 7 to 9 of the table: N = 0, Cy = 1. -/
def daaCarryRows : List DaaRow :=
  [⟨false, true, 0x0, 0x2, false, 0x0, 0x9, 0x60, true⟩,
   ⟨false, true, 0x0, 0x2, false, 0xA, 0xF, 0x66, true⟩,
   ⟨false, true, 0x0, 0x3, true, 0x0, 0x3, 0x66, true⟩]

/-- Rows 10 to 13 of the table: N = 1. -/
def daaSubRows : List DaaRow :=
  [⟨true, false, 0x0, 0x9, false, 0x0, 0x9, 0x00, false⟩,
   ⟨true, false, 0x0, 0x8, true, 0x6, 0xF, 0xFA, false⟩,
   ⟨true, true, 0x7, 0xF, false, 0x0, 0x9, 0xA0, true⟩,
   ⟨true, true, 0x6, 0xF, true, 0x6, 0xF, 0x9A, true⟩]

/-- The decimal-adjust table (R466). -/
def daaTable : List DaaRow := daaAddRows ++ daaCarryRows ++ daaSubRows

/-- Whether a row matches `(N, Cy, A[7:4], Hf, A[3:0])`. -/
def DaaRow.covers (r : DaaRow) (a : Byte) (f : Flags) : Bool :=
  r.n == f.n && r.cy == f.c && r.hf == f.h
    && decide (r.upperLo ≤ a.toNat / 16) && decide (a.toNat / 16 ≤ r.upperHi)
    && decide (r.lowerLo ≤ a.toNat % 16) && decide (a.toNat % 16 ≤ r.lowerHi)

/-- The row that matches, if one does. -/
def daaFind (a : Byte) (f : Flags) : Option DaaRow := daaTable.find? (fun r => r.covers a f)

/-- The flags after DAA: Z from the result, N kept, Hf cleared (R467). -/
def daaFlags (r : Byte) (f : Flags) (cy : Bool) : Flags := { z := r == 0, n := f.n, h := false, c := cy }

/-- DAA by a row of the table (R467). -/
def daaByRow (row : DaaRow) (a : Byte) (f : Flags) : Byte × Flags :=
  let r := a + row.add
  (r, daaFlags r f row.cyAfter)

/-- DAA by `DAA_MISS_POLICY = HardwareAlgorithm` (R467). -/
def daaHardware (a : Byte) (f : Flags) : Byte × Flags :=
  let c := f.c || (!f.n && decide (a.toNat > 0x99))
  let a1 : Int := if f.n then (if f.c then (a.toNat : Int) - 0x60 else a.toNat) else (if c then (a.toNat : Int) + 0x60 else a.toNat)
  let a2 : Int := if f.n then (if f.h then a1 - 0x06 else a1) else (if f.h || decide (a1 % 16 > 0x9) then a1 + 0x06 else a1)
  let r := BitVec.ofInt 8 a2
  (r, daaFlags r f c)

/-! ### 16-bit arithmetic (42_alu16.md) -/

/-- `ADD HL,rr`: Z is kept (R501). -/
def add16 (a b : Word) (f : Flags) : Word × Flags :=
  let s := a.toNat + b.toNat
  (BitVec.ofNat 16 s,
    { z := f.z, n := false, h := decide (a.toNat % 0x1000 + b.toNat % 0x1000 > 0x0FFF), c := decide (s > 0xFFFF) })

/-- `SP + sext_16(e8)`, with the flags of the unsigned low-byte sum (R504, R505). -/
def addSpOffset (sp : Word) (e : Byte) : Word × Flags :=
  (BitVec.ofInt 16 ((sp.toNat : Int) + e.toInt),
    { z := false, n := false
      h := decide (sp.toNat % 0x10 + e.toNat % 0x10 > 0x0F)
      c := decide (sp.toNat % 0x100 + e.toNat > 0xFF) })

/-! ### Rotates, shifts and nibble swap (43_rotate_shift.md) -/

/-- The result and the carry out of an operation on `v` with incoming carry `cy` (R535 to R542). -/
def rotResult (op : RotOp) (v : Byte) (cy : Bool) : Byte × Bool :=
  match op with
  | .rlc => (v.extractLsb' 0 7 ++ v.extractLsb' 7 1, v.getLsbD 7)
  | .rrc => (v.extractLsb' 0 1 ++ v.extractLsb' 1 7, v.getLsbD 0)
  | .rl => (v.extractLsb' 0 7 ++ BitVec.ofBool cy, v.getLsbD 7)
  | .rr => (BitVec.ofBool cy ++ v.extractLsb' 1 7, v.getLsbD 0)
  | .sla => (v.extractLsb' 0 7 ++ 0b0#1, v.getLsbD 7)
  | .sra => (v.extractLsb' 7 1 ++ v.extractLsb' 1 7, v.getLsbD 0)
  | .swap => (v.extractLsb' 0 4 ++ v.extractLsb' 4 4, false)
  | .srl => (0b0#1 ++ v.extractLsb' 1 7, v.getLsbD 0)

/-- The flags of a CB rotate, shift or swap (R530). -/
def rotFlags (r : Byte) (c : Bool) : Flags := { z := r == 0, n := false, h := false, c := c }

/-- The flags of an accumulator rotate: Z is 0 whatever the result (R530). -/
def accRotFlags (c : Bool) : Flags := { z := false, n := false, h := false, c := c }

/-! ### Single bits (44_bit.md) -/

/-- The flags of BIT: Z is the complement of the bit, Cy is kept (R571). -/
def bitFlags (b : Fin 8) (v : Byte) (f : Flags) : Flags := { z := !v.getLsbD b, n := false, h := true, c := f.c }

/-- `v & ~(1 << b)` (R572). -/
def clearBit (b : Fin 8) (v : Byte) : Byte := v &&& ~~~(1#8 <<< b.val)

/-- `v | (1 << b)` (R573). -/
def setBit (b : Fin 8) (v : Byte) : Byte := v ||| (1#8 <<< b.val)

/-! ### Conditions (R600) -/

/-- `cond(cc)` -/
def condHolds (cc : Cond) (f : Flags) : Bool :=
  match cc with
  | .nz => !f.z
  | .z => f.z
  | .nc => !f.c
  | .c => f.c

end Sys2Proof.Machine
end

