-- ==== Sys2Proof/Machine/Ops.lean ====
section
/-! DEFINITION. The operations every instruction is built from: the byte store, the bus router with its I/O registers and the OAM DMA
(20_memory.md), the stack, taking an interrupt and returning from one (60_exceptions.md), and the end of an instruction (R311). -/

namespace Sys2Proof.Machine

/-! ### The byte store -/

/-- The byte listed at an address; an unlisted address holds no written byte (log 4). -/
def Memory.read : Memory → Nat → Option Byte
  | [], _ => none
  | (b, v) :: m, k => if b = k then some v else Memory.read m k

/-- Lists a byte at an address, in its place in the rising order. -/
def Memory.write : Memory → Nat → Byte → Memory
  | [], k, w => [(k, w)]
  | (b, v) :: m, k, w =>
    if k < b then (k, w) :: (b, v) :: m
    else if b = k then (k, w) :: m
    else (b, v) :: Memory.write m k w

/-- Removes what is listed at an address. -/
def Memory.erase (m : Memory) (k : Nat) : Memory := m.filter (fun cell => cell.1 != k)

/-- Makes an address read `w`, where every unlisted address reads `fill` (log 4): a byte equal to `fill` is not listed. -/
def Memory.put (fill : Option Byte) (m : Memory) (k : Nat) (w : Byte) : Memory :=
  if fill = some w then m.erase k else m.write k w

/-- Addresses strictly rising. -/
def Memory.rising : Memory → Bool
  | [] => true
  | (b, _) :: m => m.all (fun cell => decide (b < cell.1)) && Memory.rising m

/-- The canonical form: addresses strictly rising, and no byte equal to what an unlisted address reads as. -/
def Memory.wf (fill : Option Byte) (m : Memory) : Bool := m.rising && m.all (fun cell => fill != some cell.2)

/-- The bus addresses of VRAM, WRAM, OAM and HRAM, where the core's own bytes lie (R115). -/
def isStorage (k : Nat) : Bool :=
  (decide (0x8000 ≤ k) && decide (k ≤ 0x9FFF)) || (decide (0xC000 ≤ k) && decide (k ≤ 0xDFFF))
    || (decide (0xFE00 ≤ k) && decide (k ≤ 0xFE9F)) || (decide (0xFF80 ≤ k) && decide (k ≤ 0xFFFE))

/-- The two address windows of the cartridge (R14). -/
def isCartWindow (k : Nat) : Bool :=
  decide (k ≤ 0x7FFF) || (decide (0xA000 ≤ k) && decide (k ≤ 0xBFFF))

/-! ### Setting registers -/

/-- `A <- v` -/
def State.setA (v : Byte) (s : State) : State := { s with regs := { s.regs with a := v } }

/-- Writes the four flags. -/
def State.setFlags (f : Flags) (s : State) : State := { s with regs := { s.regs with flags := f } }

/-- `SP <- w` -/
def State.setSp (w : Word) (s : State) : State := { s with regs := { s.regs with sp := w } }

/-- `PC <- w` -/
def State.setPc (w : Word) (s : State) : State := { s with regs := { s.regs with pc := w } }

/-- The pair BC (R101). -/
def State.bc (s : State) : Word := join s.regs.b s.regs.c

/-- The pair DE (R101). -/
def State.de (s : State) : Word := join s.regs.d s.regs.e

/-- The pair HL (R101). -/
def State.hl (s : State) : Word := join s.regs.h s.regs.l

/-- The pair AF (R101, R102). -/
def State.af (s : State) : Word := join s.regs.a s.regs.flags.toByte

/-- `HL <- w` (R101). -/
def State.setHl (w : Word) (s : State) : State := { s with regs := { s.regs with h := hi8 w, l := lo8 w } }

/-! ### Named devices (log 17) -/

/-- The byte in a cell of a device: 0 where none is listed. -/
def cellVal (cells : Memory) (k : Nat) : Byte := (cells.read k).getD 0

/-- A binary operation on numbers. -/
def applyOp (o : DeviceOp) (x y : Nat) : Nat :=
  match o with
  | .add => x + y
  | .sub => x - y
  | .mul => x * y
  | .div => x / y
  | .mod => x % y
  | .and => x &&& y
  | .or => x ||| y
  | .xor => x ^^^ y

/-- The number an expression stands for, in an access at `a` with the byte `v`. -/
def evalExpr (cells : Memory) (a : Word) (v : Byte) : DeviceExpr → Nat
  | .num n => n
  | .addr => a.toNat
  | .data => v.toNat
  | .cell k => (cellVal cells (evalExpr cells a v k)).toNat
  | .op o x y => applyOp o (evalExpr cells a v x) (evalExpr cells a v y)
  | .less x y t e =>
    if evalExpr cells a v x < evalExpr cells a v y then evalExpr cells a v t else evalExpr cells a v e

/-- What a device answers a read at `a` with. -/
def deviceAnswer (d : Device) (cells : Memory) (a : Word) : Byte := BitVec.ofNat 8 (evalExpr cells a 0 d.answer)

/-- The cells after the stores of one access, made in order, each with its cell and value computed from the cells before the access. -/
def deviceStores (stores : List DeviceStore) (a : Word) (v : Byte) (cells : Memory) : Memory :=
  stores.foldl (fun m x => m.put (some 0) (evalExpr cells a v x.cell) (BitVec.ofNat 8 (evalExpr cells a v x.value))) cells

/-! ### The collaborators (R14, R15) -/

/-- Records an access in the history of the cartridge provider. -/
def logCart (e : BusEvent) (s : State) : State := { s with cart := { s.cart with events := e :: s.cart.events } }

/-- Records an access in the history of the external I/O peripherals. -/
def logExt (e : BusEvent) (s : State) : State := { s with ext := { s.ext with events := e :: s.ext.events } }

/-- Makes the stores of a named cartridge provider. -/
def runCart (stores : List DeviceStore) (a : Word) (v : Byte) (s : State) : State :=
  { s with cart := { s.cart with cells := deviceStores stores a v s.cart.cells } }

/-- Makes the stores of named external I/O peripherals. -/
def runExt (stores : List DeviceStore) (a : Word) (v : Byte) (s : State) : State :=
  { s with ext := { s.ext with cells := deviceStores stores a v s.ext.cells } }

/-- The byte a flat provider is known to hold at an address. -/
def cartKnown (s : State) (a : Word) : Option Byte :=
  match s.cfg.cartridge with
  | .flat _ => s.cart.image.read a.toNat
  | .unnamed | .named _ => none

/-- `cart_read(σc, a)`: the answer (R14), which is free where the provider is not named or the flat one holds no known byte (log 2). -/
def cartVal (s : State) (a : Word) : Byte :=
  match s.cfg.cartridge with
  | .named d => deviceAnswer d s.cart.cells a
  | .unnamed | .flat _ => (cartKnown s a).getD (Config.cartAnswer s.cart.events a)

/-- The state after `cart_read(σc, a)`: a free answer is an event of the provider, and a named one makes the stores of a read (R223). -/
def cartAfter (s : State) (a : Word) : State :=
  match s.cfg.cartridge with
  | .named d => runCart d.onRead a 0 s
  | .unnamed | .flat _ => if (cartKnown s a).isSome then s else logCart (.read a) s

/-- `cart_write(σc, a, v)` (R14, R204, R206): an unnamed provider receives it; the flat one stores it in its RAM, if it has one, and
discards every other write; a named one makes the stores of a write. -/
def cartWrite (a : Word) (v : Byte) (s : State) : State :=
  match s.cfg.cartridge with
  | .unnamed => logCart (.write a v) s
  | .flat hasRam =>
    if hasRam && decide (0xA000 ≤ a.toNat) then { s with cart := { s.cart with image := s.cart.image.write a.toNat v } } else s
  | .named d => runCart d.onWrite a v s

/-- `ext_read(σx, a)`: the answer (R15, R222), which is free where no peripheral is named (log 3). -/
def extVal (s : State) (a : Word) : Byte :=
  match s.cfg.extIo with
  | .unnamed => Config.extAnswer s.ext.events a
  | .named d => deviceAnswer d s.ext.cells a

/-- The state after `ext_read(σx, a)`: an event of the peripherals (R223). -/
def extAfter (s : State) (a : Word) : State :=
  match s.cfg.extIo with
  | .unnamed => logExt (.read a) s
  | .named d => runExt d.onRead a 0 s

/-- `ext_write(σx, a, v)` (R15, R222). -/
def extWrite (a : Word) (v : Byte) (s : State) : State :=
  match s.cfg.extIo with
  | .unnamed => logExt (.write a v) s
  | .named d => runExt d.onWrite a v s

/-! ### Regions (R200, R201) -/

/-- The regions of the address map. -/
inductive Region where
  | boot | cart | vram | wram | echo | oam | unusable | io | hram | ie
  deriving DecidableEq, Repr

/-- The region of an address: the tests of R200 in its order. A write ignores the overlay (R203). -/
def region (overlay : Bool) (a : Word) : Region :=
  if overlay && decide (a.toNat ≤ 0x00FF) then .boot
  else if a.toNat ≤ 0x7FFF then .cart
  else if a.toNat ≤ 0x9FFF then .vram
  else if a.toNat ≤ 0xBFFF then .cart
  else if a.toNat ≤ 0xDFFF then .wram
  else if a.toNat ≤ 0xFDFF then .echo
  else if a.toNat ≤ 0xFE9F then .oam
  else if a.toNat ≤ 0xFEFF then .unusable
  else if a.toNat ≤ 0xFF7F then .io
  else if a.toNat ≤ 0xFFFE then .hram
  else .ie

/-- The registers of the I/O map (R212); `ext` stands for the addresses of the external peripherals (R222). -/
inductive IoReg where
  | ext | div | tima | tma | tac | iflag | lcdc | stat | scy | scx | ly | lyc | dma | bgp | obp0 | obp1 | wy | wx | boot | unmapped
  deriving DecidableEq, Repr

/-- The I/O map (R212). -/
def ioReg (a : Word) : IoReg :=
  if a.toNat ≤ 0xFF02 then .ext
  else if a = 0xFF04 then .div
  else if a = 0xFF05 then .tima
  else if a = 0xFF06 then .tma
  else if a = 0xFF07 then .tac
  else if a = 0xFF0F then .iflag
  else if 0xFF10 ≤ a.toNat ∧ a.toNat ≤ 0xFF3F then .ext
  else if a = 0xFF40 then .lcdc
  else if a = 0xFF41 then .stat
  else if a = 0xFF42 then .scy
  else if a = 0xFF43 then .scx
  else if a = 0xFF44 then .ly
  else if a = 0xFF45 then .lyc
  else if a = 0xFF46 then .dma
  else if a = 0xFF47 then .bgp
  else if a = 0xFF48 then .obp0
  else if a = 0xFF49 then .obp1
  else if a = 0xFF4A then .wy
  else if a = 0xFF4B then .wx
  else if a = 0xFF50 then .boot
  else .unmapped

/-! ### Reading a byte -/

/-- What an unlisted address of core RAM is known to read as: nothing, or the byte `RAM_INIT` gives there (R803, log 4). -/
def ramFill (r : RamInit) : Option Byte :=
  match r with
  | .unconstrained => none
  | .given _ rest => some rest

/-- A byte of VRAM, WRAM, OAM or HRAM: the byte last written, or the one `RAM_INIT` gives, which is free by default (R803, log 4). -/
def ramVal (s : State) (k : Nat) : Byte := (s.mem.read k).getD ((ramFill s.cfg.ramInit).getD (Config.freeRam k))

/-- The mode bits of STAT (R781). -/
def Mode.bits : Mode → BitVec 2
  | .hBlank => 0
  | .vBlank => 1
  | .oamScan => 2
  | .transfer => 3

/-- The read value of STAT (R781). -/
def statVal (d : Display) : Byte := 0b1#1 ++ d.statEn ++ BitVec.ofBool d.coincidence ++ d.mode.bits

/-- `IoRead(a)`: the value (R212, R214, R218, R219, R220, R222, R770, R780, R781). -/
def ioVal (a : Word) (s : State) : Byte :=
  match ioReg a with
  | .ext => extVal s a
  | .div => s.timer.div
  | .tima => s.timer.tima
  | .tma => s.timer.tma
  | .tac => 0b11111#5 ++ s.timer.tac
  | .iflag => s.cfg.ifUnusedRead ++ s.irq.iflag
  | .lcdc => s.disp.lcdc
  | .stat => statVal s.disp
  | .scy => s.disp.scy
  | .scx => s.disp.scx
  | .ly => s.disp.ly
  | .lyc => s.disp.lyc
  | .dma => s.dma
  | .bgp => s.disp.bgp
  | .obp0 => s.disp.obp0
  | .obp1 => s.disp.obp1
  | .wy => s.disp.wy
  | .wx => s.disp.wx
  | .boot => s.cfg.unmappedRead
  | .unmapped => s.cfg.unmappedRead

/-- `MemRead(a, 1)`: the value (R200). An overlay with no boot program, which no reset builds, shows the cartridge (log 12). -/
def readVal (a : Word) (s : State) : Byte :=
  match region s.bootOverlay a with
  | .boot =>
    match s.cfg.bootRom with
    | some rom => rom[a.toNat % 256]'(Nat.mod_lt _ (by decide))
    | none => cartVal s a
  | .cart => cartVal s a
  | .vram => ramVal s a.toNat
  | .wram => ramVal s a.toNat
  | .echo => ramVal s (a.toNat - 0x2000)
  | .oam => ramVal s a.toNat
  | .unusable => 0x00
  | .io => ioVal a s
  | .hram => ramVal s a.toNat
  | .ie => s.irq.ie

/-- The state after `MemRead(a, 1)`: only a collaborator's answer is an event (R223). -/
def afterRead (a : Word) (s : State) : State :=
  match region s.bootOverlay a with
  | .boot => if s.cfg.bootRom.isSome then s else cartAfter s a
  | .cart => cartAfter s a
  | .io => if ioReg a = .ext then extAfter s a else s
  | _ => s

/-! ### Writing a byte -/

/-- Stores a byte of VRAM, WRAM, OAM or HRAM. -/
def ramWrite (k : Nat) (v : Byte) (s : State) : State := { s with mem := s.mem.put (ramFill s.cfg.ramInit) k v }

/-- One byte of the DMA copy (R221): byte `i` of the source, read through the router, to `OAM[i]`. -/
def dmaByte (src : Word) (s : State) (i : Nat) : State :=
  let a := src + BitVec.ofNat 16 i
  ramWrite (0xFE00 + i) (readVal a s) (afterRead a s)

/-- The DMA copy of 160 bytes, in ascending order, from `v ++ 0x00` (R221). -/
def dmaCopy (v : Byte) (s : State) : State := (List.range 160).foldl (dmaByte (join v 0x00)) s

/-- A write of the DMA trigger register (R220): a value above 0xF1 copies nothing. -/
def dmaTrigger (v : Byte) (s : State) : State :=
  let s1 := { s with dma := v }
  if v.toNat ≤ 0xF1 then dmaCopy v s1 else s1

/-- A write of TAC (R771): a new selector clears tima_acc. -/
def writeTac (v : Byte) (t : Timer) : Timer :=
  let new := v.extractLsb' 0 3
  { t with tac := new, timaAcc := if new.extractLsb' 0 2 = t.tac.extractLsb' 0 2 then t.timaAcc else 0 }

/-- `IoWrite(a, v)` (R212, R214, R218, R219, R220, R222, R771, R780, R781). -/
def ioWrite (a : Word) (v : Byte) (s : State) : State :=
  match ioReg a with
  | .ext => extWrite a v s
  | .div => { s with timer := { s.timer with div := 0, divAcc := 0 } }
  | .tima => { s with timer := { s.timer with tima := v } }
  | .tma => { s with timer := { s.timer with tma := v } }
  | .tac => { s with timer := writeTac v s.timer }
  | .iflag => { s with irq := { s.irq with iflag := v.extractLsb' 0 5 } }
  | .lcdc => { s with disp := { s.disp with lcdc := v } }
  | .stat => { s with disp := { s.disp with statEn := v.extractLsb' 3 4 } }
  | .scy => { s with disp := { s.disp with scy := v } }
  | .scx => { s with disp := { s.disp with scx := v } }
  | .ly => s
  | .lyc => { s with disp := { s.disp with lyc := v } }
  | .dma => dmaTrigger v s
  | .bgp => { s with disp := { s.disp with bgp := v } }
  | .obp0 => { s with disp := { s.disp with obp0 := v } }
  | .obp1 => { s with disp := { s.disp with obp1 := v } }
  | .wy => { s with disp := { s.disp with wy := v } }
  | .wx => { s with disp := { s.disp with wx := v } }
  | .boot => if v = 0 then s else { s with bootOverlay := false }
  | .unmapped => s

/-- `MemWrite(a, 1, v)` (R200). -/
def memWrite (a : Word) (v : Byte) (s : State) : State :=
  match region false a with
  | .boot => s
  | .cart => cartWrite a v s
  | .vram => ramWrite a.toNat v s
  | .wram => ramWrite a.toNat v s
  | .echo => ramWrite (a.toNat - 0x2000) v s
  | .oam => ramWrite a.toNat v s
  | .unusable => s
  | .io => ioWrite a v s
  | .hram => ramWrite a.toNat v s
  | .ie => { s with irq := { s.irq with ie := v } }

/-! ### Two-byte accesses and the stack (R18, R230, R231) -/

/-- `MemRead(a, 2)`: the value. The low byte is read first, and the high byte in the state after it. -/
def readWord (a : Word) (s : State) : Word := join (readVal (a + 1) (afterRead a s)) (readVal a s)

/-- The state after `MemRead(a, 2)`. -/
def afterReadWord (a : Word) (s : State) : State := afterRead (a + 1) (afterRead a s)

/-- `MemWrite(a, 2, w)`: the low byte first. -/
def writeWord (a : Word) (w : Word) (s : State) : State := memWrite (a + 1) (hi8 w) (memWrite a (lo8 w) s)

/-- `Push16(w)`: the high byte at SP-1 first, then the low byte at SP-2. -/
def push16 (w : Word) (s : State) : State :=
  let s1 := s.setSp (s.regs.sp - 1)
  let s2 := memWrite s1.regs.sp (hi8 w) s1
  let s3 := s2.setSp (s2.regs.sp - 1)
  memWrite s3.regs.sp (lo8 w) s3

/-- `Pop16()`: the value. The low byte is read first, at SP. -/
def popVal (s : State) : Word := readWord s.regs.sp s

/-- The state after `Pop16()`. -/
def popAfter (s : State) : State := (afterReadWord s.regs.sp s).setSp (s.regs.sp + 2)

/-! ### The end of an instruction (R19, R311) -/

/-- Commits the default next PC, `PC + len`, and the step's tick count. -/
def retire (len ticks : Nat) (s : State) : State :=
  { s with regs := { s.regs with pc := s.regs.pc + BitVec.ofNat 16 len }, out := { s.out with ticks := ticks } }

/-- Commits a target to PC, and the step's tick count. -/
def jumpTo (target : Word) (ticks : Nat) (s : State) : State :=
  { s with regs := { s.regs with pc := target }, out := { s.out with ticks := ticks } }

/-- The cost of a conditional instruction under `COND_TICKS` (R313, R821). -/
def condCost (s : State) (holds : Bool) (taken notTaken : Nat) : Nat :=
  match s.cfg.condTicks with
  | .branchSensitive => if holds then taken else notTaken
  | .taken => taken
  | .notTaken => notTaken

/-! ### Interrupts (R704, R705, R611) -/

/-- `IE[4:0] & IF[4:0]` (R704). -/
def pendingLines (s : State) : BitVec 5 := s.irq.ie.extractLsb' 0 5 &&& s.irq.iflag

/-- The least set bit of the pending lines: bit 0 has the highest priority (R108, R705). -/
def firstLine (p : BitVec 5) : Nat :=
  if p.getLsbD 0 then 0 else if p.getLsbD 1 then 1 else if p.getLsbD 2 then 2 else if p.getLsbD 3 then 3 else 4

/-- The vector of a line (R108, R702). -/
def vectorOf (k : Nat) : Word := BitVec.ofNat 16 (0x0040 + 8 * k)

/-- IME and both slots of its pipeline cleared, and the served request cleared under `IF_AUTOCLEAR` (R705). -/
def Interrupts.dispatched (k : Nat) (autoclear : Bool) (i : Interrupts) : Interrupts :=
  { i with
    ime := false, imeDelayed := none, imeRequest := none
    iflag := if autoclear then i.iflag &&& ~~~(1#5 <<< k) else i.iflag }

/-- TAKING AN INTERRUPT, the block's only trap entry (R705). The line is chosen before the push. -/
def takeInterrupt (s : State) : State :=
  let k := firstLine (pendingLines s)
  let s1 := (push16 s.regs.pc s).setPc (vectorOf k)
  { s1 with
    irq := s1.irq.dispatched k s1.cfg.ifAutoclear
    halted := false
    out := { s1.out with ticks := s1.cfg.intDispatchTicks, dispatched := true } }

/-- RETURNING FROM AN INTERRUPT (R611, R707): PC is popped, IME is set at once, and both slots of its pipeline are cleared. -/
def returnFromInterrupt (ticks : Nat) (s : State) : State :=
  let s1 := jumpTo (popVal s) ticks (popAfter s)
  { s1 with irq := { s1.irq with ime := true, imeDelayed := none, imeRequest := none } }

/-- The state a faulting instruction leaves (R760): the fault is recorded, and nothing else is written. The step itself answers the fault
(log 6). -/
def State.faulted (k : Fault) (s : State) : State := { s with fault := some k }

end Sys2Proof.Machine
end

