-- ==== Sys2Proof/Machine/Timer.lean ====
section
/-! DEFINITION. The timer and divider: the delivery of a step's ticks to them (R770 to R776). -/

namespace Sys2Proof.Machine

/-- `Divisor[TAC[1:0]]` (R772). -/
def timerDivisor (tac : BitVec 3) : Nat :=
  match (tac.extractLsb' 0 2).toNat with
  | 0 => 1024
  | 1 => 16
  | 2 => 64
  | _ => 256

/-- The divider part of `TimerTick(t)` (R773, R775): one increment for each 256 ticks accumulated (log 13). -/
def dividerTick (t : Nat) (tm : Timer) : Timer :=
  let acc := tm.divAcc + t
  { tm with div := tm.div + BitVec.ofNat 8 (acc / 256), divAcc := acc % 256 }

/-- Sets IF bit `k`; a bit already set stays set (R709). -/
def raiseLine (k : Nat) (i : Interrupts) : Interrupts := { i with iflag := i.iflag ||| (1#5 <<< k) }

/-- One increment of TIMA: from 0xFF it reloads TMA and requests the timer interrupt (R774). -/
def timaBump (s : State) : State :=
  if s.timer.tima = 0xFF then
    { s with timer := { s.timer with tima := s.timer.tma }, irq := raiseLine 2 s.irq }
  else
    { s with timer := { s.timer with tima := s.timer.tima + 1 } }

/-- `n` increments of TIMA. -/
def timaBumps : Nat → State → State
  | 0, s => s
  | n + 1, s => timaBumps n (timaBump s)

/-- The counter part of `TimerTick(t)` (R774, R775): one increment for each divisor accumulated, while TAC[2] is set (log 13). -/
def counterTick (t : Nat) (s : State) : State :=
  if s.timer.tac.getLsbD 2 then
    let n := timerDivisor s.timer.tac
    let acc := s.timer.timaAcc + t
    timaBumps (acc / n) { s with timer := { s.timer with timaAcc := acc % n } }
  else s

/-- `TimerTick(t)` (R775). -/
def timerTick (t : Nat) (s : State) : State := counterTick t { s with timer := dividerTick t s.timer }

end Sys2Proof.Machine
end

