-- ==== Sys2Proof/Machine/Display.lean ====
section
/-! DEFINITION. The display timing state machine: the delivery of a step's ticks to it (R780 to R789). -/

namespace Sys2Proof.Machine

/-- `Dur(mode)` (R784). -/
def Mode.duration : Mode → Nat
  | .oamScan => 80
  | .transfer => 172
  | .hBlank => 204
  | .vBlank => 456

/-- Sets IF bit 1, the display-status request, and the step's note of it (R710, R783). -/
def raiseStat (s : State) : State := { s with irq := raiseLine 1 s.irq, out := { s.out with statNote := true } }

/-- Sets IF bit 0, the v-blank request, and the step's note of it (R710, R783). -/
def raiseVblank (s : State) : State := { s with irq := raiseLine 0 s.irq, out := { s.out with vblankNote := true } }

/-- Raises the display-status request if the STAT enable `bit` is set (R784). -/
def statRequest (bit : Nat) (s : State) : State := if s.disp.statEn.getLsbD bit then raiseStat s else s

/-- `LY <- ly; Coincide()` (R784, R785). -/
def setLine (ly : Byte) (s : State) : State :=
  let hit := ly == s.disp.lyc
  let s1 := { s with disp := { s.disp with ly := ly, coincidence := hit } }
  if hit then statRequest 3 s1 else s1

/-- `mode <- m` -/
def setMode (m : Mode) (s : State) : State := { s with disp := { s.disp with mode := m } }

/-- The end of an h-blank: LY counts up, and the next line is scanned or v-blank begins (R784). -/
def endHBlank (s : State) : State :=
  let s1 := setLine (s.disp.ly + 1) s
  if s1.disp.ly = 144 then statRequest 1 (raiseVblank (setMode .vBlank s1))
  else statRequest 2 (setMode .oamScan s1)

/-- The end of a v-blank line: LY counts up, and wraps to line 0 after line 153 (R784). -/
def endVBlankLine (s : State) : State :=
  let s1 := setLine (if s.disp.ly + 1 = 154 then 0 else s.disp.ly + 1) s
  if s1.disp.ly = 0 then statRequest 2 (setMode .oamScan s1) else s1

/-- What happens at the end of a phase, by the mode that ends (R784). -/
def phaseEnd (s : State) : State :=
  match s.disp.mode with
  | .oamScan => setMode .transfer s
  | .transfer => statRequest 0 (setMode .hBlank s)
  | .hBlank => endHBlank s
  | .vBlank => endVBlankLine s

/-- The end of one phase: its duration is taken off the phase's ticks (R784). -/
def phaseStep (s : State) : State :=
  phaseEnd { s with disp := { s.disp with phaseTicks := s.disp.phaseTicks - s.disp.mode.duration } }

/-- The loop of `DisplayTick`: phases end while their ticks are full. The first argument bounds the number of ends. -/
def phaseLoop : Nat → State → State
  | 0, s => s
  | n + 1, s => if s.disp.phaseTicks < s.disp.mode.duration then s else phaseLoop n (phaseStep s)

/-- `DisplayTick(t)` (R782, R784). Every phase lasts at least 80 ticks, so that many ends are enough (log 13). -/
def displayTick (t : Nat) (s : State) : State :=
  if s.cfg.lcdGating && !s.disp.lcdc.getLsbD 7 then s
  else
    let total := s.disp.phaseTicks + t
    phaseLoop (total / 80) { s with disp := { s.disp with phaseTicks := total } }

end Sys2Proof.Machine
end

