-- ==== Sys2Proof/Machine/Operands.lean ====
section
/-! DEFINITION. The operand forms: the 8-bit operand field with its (HL) form (R304), the register pairs (R305), and the address forms
(R302). Reading an operand has a value and a state after it, because a read of a collaborator is an event (R223). -/

namespace Sys2Proof.Machine

/-- `R8[r]`: the value (R304). -/
def r8Val (r : R8) (s : State) : Byte :=
  match r with
  | .b => s.regs.b
  | .c => s.regs.c
  | .d => s.regs.d
  | .e => s.regs.e
  | .h => s.regs.h
  | .l => s.regs.l
  | .hlInd => readVal s.hl s
  | .a => s.regs.a

/-- The state after reading `R8[r]`. -/
def r8After (r : R8) (s : State) : State :=
  match r with
  | .hlInd => afterRead s.hl s
  | .b | .c | .d | .e | .h | .l | .a => s

/-- `R8[r] <- v` (R304). -/
def r8Write (r : R8) (v : Byte) (s : State) : State :=
  match r with
  | .b => { s with regs := { s.regs with b := v } }
  | .c => { s with regs := { s.regs with c := v } }
  | .d => { s with regs := { s.regs with d := v } }
  | .e => { s with regs := { s.regs with e := v } }
  | .h => { s with regs := { s.regs with h := v } }
  | .l => { s with regs := { s.regs with l := v } }
  | .hlInd => memWrite s.hl v s
  | .a => s.setA v

/-- Whether an operand is the memory byte at HL. -/
def isIndirect (r : R8) : Bool :=
  match r with
  | .hlInd => true
  | .b | .c | .d | .e | .h | .l | .a => false

/-- `R16[p]` (R305). -/
def r16Val (p : R16) (s : State) : Word :=
  match p with
  | .bc => s.bc
  | .de => s.de
  | .hl => s.hl
  | .sp => s.regs.sp

/-- `R16[p] <- w` (R101, R305). -/
def r16Write (p : R16) (w : Word) (s : State) : State :=
  match p with
  | .bc => { s with regs := { s.regs with b := hi8 w, c := lo8 w } }
  | .de => { s with regs := { s.regs with d := hi8 w, e := lo8 w } }
  | .hl => s.setHl w
  | .sp => s.setSp w

/-- `R16P[p]` (R305). -/
def r16pVal (p : R16P) (s : State) : Word :=
  match p with
  | .bc => s.bc
  | .de => s.de
  | .hl => s.hl
  | .af => s.af

/-- `R16P[p] <- w` (R305); AF discards bits 3:0 (R102, R421). -/
def r16pWrite (p : R16P) (w : Word) (s : State) : State :=
  match p with
  | .bc => { s with regs := { s.regs with b := hi8 w, c := lo8 w } }
  | .de => { s with regs := { s.regs with d := hi8 w, e := lo8 w } }
  | .hl => s.setHl w
  | .af => { s with regs := { s.regs with a := hi8 w, flags := Flags.ofByte (lo8 w) } }

/-- The high-page address `0xFF00 + a8` (R302, R410, R412). -/
def highPage (a8 : Byte) : Word := join 0xFF a8

/-- The target of a relative jump: the address after the two-byte instruction plus the signed displacement (R302, R604). -/
def relativeTarget (pc : Word) (e : Byte) : Word := pc + 2 + e.signExtend 16

/-- The address after an instruction of `len` bytes: the default next PC (R311). -/
def nextPc (len : Nat) (s : State) : Word := s.regs.pc + BitVec.ofNat 16 len

end Sys2Proof.Machine
end

