-- ==== Sys2Proof/Machine/Cycle.lean ====
section
/-! DEFINITION. The parts of the step around an instruction (R700): the IME pipeline, the halted idle step, the fetch of an
instruction's bytes and the delivery of a step's ticks; and the events from outside (R711, R800). -/

namespace Sys2Proof.Machine

/-! ### The parts of a step -/

/-- The IME pipeline, once at the start of every step (R703). -/
def Interrupts.pipeline (i : Interrupts) : Interrupts :=
  { i with ime := i.imeDelayed.getD i.ime, imeDelayed := i.imeRequest, imeRequest := none }

/-- The start of a step: the IME pipeline, and the outputs of the last step cleared (R700, R710, log 7). -/
def beginStep (s : State) : State := { s with irq := s.irq.pipeline, out := StepOut.none }

/-- Whether the step is diverted to an interrupt (R704). -/
def interruptDue (s : State) : Bool := s.irq.ime && pendingLines s != 0

/-- Whether the step is an idle step of a halted CPU (R706). -/
def idleDue (s : State) : Bool := s.halted && pendingLines s == 0

/-- The idle step (R706): no bus access, `HALT_IDLE_TICKS`. -/
def idleStep (s : State) : State := { s with out := { s.out with ticks := s.cfg.haltIdleTicks } }

/-- A normal step begins running (R700 part 4). -/
def wake (s : State) : State := { s with halted := false }

/-- `n` bytes through the router from an address upward, mod 2^16, and the state after the reads (R240, R311). -/
def fetchBytes : Nat → Word → State → List Byte × State
  | 0, _, s => ([], s)
  | n + 1, a, s =>
    let rest := fetchBytes n (a + 1) (afterRead a s)
    (readVal a s :: rest.1, rest.2)

/-- The bytes of the instruction at PC, exactly as many as its first byte gives, and the state after reading them (R311, R312). -/
def fetchInstr (s : State) : List Byte × State :=
  fetchBytes (instrLength s.cfg.stopLength (readVal s.regs.pc s)) s.regs.pc s

/-- The delivery of a step's ticks: all to the timer, then all to the display (R701). -/
def deliverTicks (s : State) : State := displayTick s.out.ticks (timerTick s.out.ticks s)

/-! ### Events from outside -/

/-- `Raise(bit)`, between two steps: the serial (3) or joypad (4) peripheral requests its interrupt; any other bit is refused
(R711, U21, log 10). -/
def raise (bit : Nat) (s : State) : Result :=
  if bit = 3 ∨ bit = 4 then .next { s with irq := raiseLine bit s.irq } else .refused .raiseLine

/-- VRAM, WRAM, OAM and HRAM as `RAM_INIT` gives them; a given cell outside them is no byte of the core (R803). -/
def initialMemory (r : RamInit) : Memory :=
  match r with
  | .unconstrained => []
  | .given cells rest => cells.foldl (fun m cell => if isStorage cell.1 then m.put (some rest) cell.1 cell.2 else m) []

/-- The register file of the BootRom profile: every U register is a free value (R117, R802, log 14). -/
def bootRomRegs : Regs :=
  { a := Config.freeRegister 0, b := Config.freeRegister 1, c := Config.freeRegister 2, d := Config.freeRegister 3
    e := Config.freeRegister 4, h := Config.freeRegister 5, l := Config.freeRegister 6
    flags := Flags.ofByte (Config.freeRegister 7), sp := Config.freeStackPointer, pc := 0x0000 }

/-- The BootRom column of the reset table (R117, R802). -/
def bootRomReset : State :=
  { State.reset with
    regs := bootRomRegs
    irq := { ie := 0x00, iflag := 0b00000, ime := false, imeDelayed := none, imeRequest := none }
    timer := { div := 0x00, divAcc := 0, tima := 0x00, tma := 0x00, tac := 0b000, timaAcc := 0 }
    disp :=
      { lcdc := 0x00, statEn := 0b0000, mode := .oamScan, phaseTicks := 0, ly := 0, lyc := 0x00, coincidence := true
        scy := 0x00, scx := 0x00, bgp := 0x00, obp0 := 0x00, obp1 := 0x00, wy := 0x00, wx := 0x00 }
    dma := 0x00
    bootOverlay := true }

/-- The PostBoot or BootRom column of the reset table (R117). -/
def profileReset (r : ResetProfile) : State :=
  match r with
  | .postBoot => State.reset
  | .bootRom => bootRomReset

/-- `Reset(RESET_PROFILE, BOOT_ROM, RAM_INIT)` with the parameters `p` (R800). The collaborators' states are given apart. The profile
BootRom with no boot program is refused (R203, U20, log 12). -/
def resetWith (p : Params) (cart : Cart) (ext : Peripherals) : Result :=
  if p.resetProfile = .bootRom ∧ p.bootRom = none then .refused .bootRomAbsent
  else .next { profileReset p.resetProfile with cfg := p, mem := initialMemory p.ramInit, cart := cart, ext := ext }

end Sys2Proof.Machine
end

