-- ==== Sys2Proof/Machine/Alu16.lean ====
section
/-! DEFINITION. 16-bit arithmetic (42_alu16.md): shared forms, then one meaning per instruction. -/

namespace Sys2Proof.Machine

/-- `ADD HL,rr` (R501). -/
def addHl (p : R16) (s : State) : Result :=
  let r := add16 s.hl (r16Val p s) s.regs.flags
  .next (retire 1 8 ((s.setHl r.1).setFlags r.2))

/-- `INC rr` (R502). -/
def incPair (p : R16) (s : State) : Result := .next (retire 1 8 (r16Write p (r16Val p s + 1) s))

/-- `DEC rr` (R503). -/
def decPair (p : R16) (s : State) : Result := .next (retire 1 8 (r16Write p (r16Val p s - 1) s))

/-- INC BC (03; R502). -/
def execIncBC (s : State) : Result := incPair .bc s

/-- ADD HL,BC (09; R501). -/
def execAddHL_BC (s : State) : Result := addHl .bc s

/-- DEC BC (0B; R503). -/
def execDecBC (s : State) : Result := decPair .bc s

/-- INC DE (13; R502). -/
def execIncDE (s : State) : Result := incPair .de s

/-- ADD HL,DE (19; R501). -/
def execAddHL_DE (s : State) : Result := addHl .de s

/-- DEC DE (1B; R503). -/
def execDecDE (s : State) : Result := decPair .de s

/-- INC HL (23; R502). -/
def execIncHL (s : State) : Result := incPair .hl s

/-- ADD HL,HL (29; R501). -/
def execAddHL_HL (s : State) : Result := addHl .hl s

/-- DEC HL (2B; R503). -/
def execDecHL (s : State) : Result := decPair .hl s

/-- INC SP (33; R502). -/
def execIncSP (s : State) : Result := incPair .sp s

/-- ADD HL,SP (39; R501). -/
def execAddHL_SP (s : State) : Result := addHl .sp s

/-- DEC SP (3B; R503). -/
def execDecSP (s : State) : Result := decPair .sp s

/-- ADD SP,e8 (E8; R504). -/
def execAddSP_E8 (e : Byte) (s : State) : Result :=
  let r := addSpOffset s.regs.sp e
  .next (retire 2 16 ((s.setSp r.1).setFlags r.2))

/-- LD HL,SP+e8 (F8; R505). -/
def execLdHL_SPE8 (e : Byte) (s : State) : Result :=
  let r := addSpOffset s.regs.sp e
  .next (retire 2 12 ((s.setHl r.1).setFlags r.2))

end Sys2Proof.Machine
end

