-- ==== Sys2Proof/Machine/Alu8.lean ====
section
/-! DEFINITION. 8-bit arithmetic and logic (41_alu8.md): shared forms, then one meaning per instruction. -/

namespace Sys2Proof.Machine

/-- `ALU[y] A, R8[z]` (R450, R454 to R461): 4 ticks, or 8 for (HL). -/
def aluR8 (op : AluOp) (src : R8) (s : State) : Result :=
  let r := aluResult op s.regs.a (r8Val src s) s.regs.flags.c
  .next (retire 1 (if isIndirect src then 8 else 4) (((r8After src s).setA r.1).setFlags r.2))

/-- `ALU[y] A, n8` (R450, R454 to R461). -/
def aluImm (op : AluOp) (n : Byte) (s : State) : Result :=
  let r := aluResult op s.regs.a n s.regs.flags.c
  .next (retire 2 8 ((s.setA r.1).setFlags r.2))

/-- `INC r` and `INC (HL)`: the read, then the write (R462, R463). -/
def incR8 (r : R8) (s : State) : Result :=
  let x := inc8 (r8Val r s) s.regs.flags
  .next (retire 1 (if isIndirect r then 12 else 4) ((r8Write r x.1 (r8After r s)).setFlags x.2))

/-- `DEC r` and `DEC (HL)`: the read, then the write (R464, R465). -/
def decR8 (r : R8) (s : State) : Result :=
  let x := dec8 (r8Val r s) s.regs.flags
  .next (retire 1 (if isIndirect r then 12 else 4) ((r8Write r x.1 (r8After r s)).setFlags x.2))

/-- The end of DAA: the corrected A and its flags (R467). -/
def daaFinish (r : Byte × Flags) (s : State) : Result := .next (retire 1 4 ((s.setA r.1).setFlags r.2))

/-- INC B (04; R462). -/
def execIncB (s : State) : Result := incR8 .b s

/-- DEC B (05; R464). -/
def execDecB (s : State) : Result := decR8 .b s

/-- INC C (0C; R462). -/
def execIncC (s : State) : Result := incR8 .c s

/-- DEC C (0D; R464). -/
def execDecC (s : State) : Result := decR8 .c s

/-- INC D (14; R462). -/
def execIncD (s : State) : Result := incR8 .d s

/-- DEC D (15; R464). -/
def execDecD (s : State) : Result := decR8 .d s

/-- INC E (1C; R462). -/
def execIncE (s : State) : Result := incR8 .e s

/-- DEC E (1D; R464). -/
def execDecE (s : State) : Result := decR8 .e s

/-- INC H (24; R462). -/
def execIncH (s : State) : Result := incR8 .h s

/-- DEC H (25; R464). -/
def execDecH (s : State) : Result := decR8 .h s

/-- DAA (27; R467). -/
def execDaa (s : State) : Result :=
  match daaFind s.regs.a s.regs.flags with
  | some row => daaFinish (daaByRow row s.regs.a s.regs.flags) s
  | none =>
    match s.cfg.daaMissPolicy with
    | .fault => .fault .daaTableMiss
    | .hardwareAlgorithm => daaFinish (daaHardware s.regs.a s.regs.flags) s

/-- INC L (2C; R462). -/
def execIncL (s : State) : Result := incR8 .l s

/-- DEC L (2D; R464). -/
def execDecL (s : State) : Result := decR8 .l s

/-- CPL (2F; R468). -/
def execCpl (s : State) : Result :=
  .next (retire 1 4 ((s.setA (s.regs.a ^^^ 0xFF)).setFlags { s.regs.flags with n := true, h := true }))

/-- INC (HL) (34; R463). -/
def execIncIndHL (s : State) : Result := incR8 .hlInd s

/-- DEC (HL) (35; R465). -/
def execDecIndHL (s : State) : Result := decR8 .hlInd s

/-- SCF (37; R469). -/
def execScf (s : State) : Result :=
  .next (retire 1 4 (s.setFlags { s.regs.flags with n := false, h := false, c := true }))

/-- INC A (3C; R462). -/
def execIncA (s : State) : Result := incR8 .a s

/-- DEC A (3D; R464). -/
def execDecA (s : State) : Result := decR8 .a s

/-- CCF (3F; R470). -/
def execCcf (s : State) : Result :=
  .next (retire 1 4 (s.setFlags { s.regs.flags with n := false, h := false, c := !s.regs.flags.c }))

/-- ADD A,B (80; R454). -/
def execAddA_B (s : State) : Result := aluR8 .add .b s

/-- ADD A,C (81; R454). -/
def execAddA_C (s : State) : Result := aluR8 .add .c s

/-- ADD A,D (82; R454). -/
def execAddA_D (s : State) : Result := aluR8 .add .d s

/-- ADD A,E (83; R454). -/
def execAddA_E (s : State) : Result := aluR8 .add .e s

/-- ADD A,H (84; R454). -/
def execAddA_H (s : State) : Result := aluR8 .add .h s

/-- ADD A,L (85; R454). -/
def execAddA_L (s : State) : Result := aluR8 .add .l s

/-- ADD A,(HL) (86; R454). -/
def execAddA_IndHL (s : State) : Result := aluR8 .add .hlInd s

/-- ADD A,A (87; R454). -/
def execAddA_A (s : State) : Result := aluR8 .add .a s

/-- ADC A,B (88; R455). -/
def execAdcA_B (s : State) : Result := aluR8 .adc .b s

/-- ADC A,C (89; R455). -/
def execAdcA_C (s : State) : Result := aluR8 .adc .c s

/-- ADC A,D (8A; R455). -/
def execAdcA_D (s : State) : Result := aluR8 .adc .d s

/-- ADC A,E (8B; R455). -/
def execAdcA_E (s : State) : Result := aluR8 .adc .e s

/-- ADC A,H (8C; R455). -/
def execAdcA_H (s : State) : Result := aluR8 .adc .h s

/-- ADC A,L (8D; R455). -/
def execAdcA_L (s : State) : Result := aluR8 .adc .l s

/-- ADC A,(HL) (8E; R455). -/
def execAdcA_IndHL (s : State) : Result := aluR8 .adc .hlInd s

/-- ADC A,A (8F; R455). -/
def execAdcA_A (s : State) : Result := aluR8 .adc .a s

/-- SUB A,B (90; R456). -/
def execSubA_B (s : State) : Result := aluR8 .sub .b s

/-- SUB A,C (91; R456). -/
def execSubA_C (s : State) : Result := aluR8 .sub .c s

/-- SUB A,D (92; R456). -/
def execSubA_D (s : State) : Result := aluR8 .sub .d s

/-- SUB A,E (93; R456). -/
def execSubA_E (s : State) : Result := aluR8 .sub .e s

/-- SUB A,H (94; R456). -/
def execSubA_H (s : State) : Result := aluR8 .sub .h s

/-- SUB A,L (95; R456). -/
def execSubA_L (s : State) : Result := aluR8 .sub .l s

/-- SUB A,(HL) (96; R456). -/
def execSubA_IndHL (s : State) : Result := aluR8 .sub .hlInd s

/-- SUB A,A (97; R456). -/
def execSubA_A (s : State) : Result := aluR8 .sub .a s

/-- SBC A,B (98; R457). -/
def execSbcA_B (s : State) : Result := aluR8 .sbc .b s

/-- SBC A,C (99; R457). -/
def execSbcA_C (s : State) : Result := aluR8 .sbc .c s

/-- SBC A,D (9A; R457). -/
def execSbcA_D (s : State) : Result := aluR8 .sbc .d s

/-- SBC A,E (9B; R457). -/
def execSbcA_E (s : State) : Result := aluR8 .sbc .e s

/-- SBC A,H (9C; R457). -/
def execSbcA_H (s : State) : Result := aluR8 .sbc .h s

/-- SBC A,L (9D; R457). -/
def execSbcA_L (s : State) : Result := aluR8 .sbc .l s

/-- SBC A,(HL) (9E; R457). -/
def execSbcA_IndHL (s : State) : Result := aluR8 .sbc .hlInd s

/-- SBC A,A (9F; R457). -/
def execSbcA_A (s : State) : Result := aluR8 .sbc .a s

/-- AND A,B (A0; R458). -/
def execAndA_B (s : State) : Result := aluR8 .and .b s

/-- AND A,C (A1; R458). -/
def execAndA_C (s : State) : Result := aluR8 .and .c s

/-- AND A,D (A2; R458). -/
def execAndA_D (s : State) : Result := aluR8 .and .d s

/-- AND A,E (A3; R458). -/
def execAndA_E (s : State) : Result := aluR8 .and .e s

/-- AND A,H (A4; R458). -/
def execAndA_H (s : State) : Result := aluR8 .and .h s

/-- AND A,L (A5; R458). -/
def execAndA_L (s : State) : Result := aluR8 .and .l s

/-- AND A,(HL) (A6; R458). -/
def execAndA_IndHL (s : State) : Result := aluR8 .and .hlInd s

/-- AND A,A (A7; R458). -/
def execAndA_A (s : State) : Result := aluR8 .and .a s

/-- XOR A,B (A8; R459). -/
def execXorA_B (s : State) : Result := aluR8 .xor .b s

/-- XOR A,C (A9; R459). -/
def execXorA_C (s : State) : Result := aluR8 .xor .c s

/-- XOR A,D (AA; R459). -/
def execXorA_D (s : State) : Result := aluR8 .xor .d s

/-- XOR A,E (AB; R459). -/
def execXorA_E (s : State) : Result := aluR8 .xor .e s

/-- XOR A,H (AC; R459). -/
def execXorA_H (s : State) : Result := aluR8 .xor .h s

/-- XOR A,L (AD; R459). -/
def execXorA_L (s : State) : Result := aluR8 .xor .l s

/-- XOR A,(HL) (AE; R459). -/
def execXorA_IndHL (s : State) : Result := aluR8 .xor .hlInd s

/-- XOR A,A (AF; R459). -/
def execXorA_A (s : State) : Result := aluR8 .xor .a s

/-- OR A,B (B0; R460). -/
def execOrA_B (s : State) : Result := aluR8 .or .b s

/-- OR A,C (B1; R460). -/
def execOrA_C (s : State) : Result := aluR8 .or .c s

/-- OR A,D (B2; R460). -/
def execOrA_D (s : State) : Result := aluR8 .or .d s

/-- OR A,E (B3; R460). -/
def execOrA_E (s : State) : Result := aluR8 .or .e s

/-- OR A,H (B4; R460). -/
def execOrA_H (s : State) : Result := aluR8 .or .h s

/-- OR A,L (B5; R460). -/
def execOrA_L (s : State) : Result := aluR8 .or .l s

/-- OR A,(HL) (B6; R460). -/
def execOrA_IndHL (s : State) : Result := aluR8 .or .hlInd s

/-- OR A,A (B7; R460). -/
def execOrA_A (s : State) : Result := aluR8 .or .a s

/-- CP A,B (B8; R461). -/
def execCpA_B (s : State) : Result := aluR8 .cp .b s

/-- CP A,C (B9; R461). -/
def execCpA_C (s : State) : Result := aluR8 .cp .c s

/-- CP A,D (BA; R461). -/
def execCpA_D (s : State) : Result := aluR8 .cp .d s

/-- CP A,E (BB; R461). -/
def execCpA_E (s : State) : Result := aluR8 .cp .e s

/-- CP A,H (BC; R461). -/
def execCpA_H (s : State) : Result := aluR8 .cp .h s

/-- CP A,L (BD; R461). -/
def execCpA_L (s : State) : Result := aluR8 .cp .l s

/-- CP A,(HL) (BE; R461). -/
def execCpA_IndHL (s : State) : Result := aluR8 .cp .hlInd s

/-- CP A,A (BF; R461). -/
def execCpA_A (s : State) : Result := aluR8 .cp .a s

/-- ADD A,n8 (C6; R454). -/
def execAddA_N8 (n : Byte) (s : State) : Result := aluImm .add n s

/-- ADC A,n8 (CE; R455). -/
def execAdcA_N8 (n : Byte) (s : State) : Result := aluImm .adc n s

/-- SUB A,n8 (D6; R456). -/
def execSubA_N8 (n : Byte) (s : State) : Result := aluImm .sub n s

/-- SBC A,n8 (DE; R457). -/
def execSbcA_N8 (n : Byte) (s : State) : Result := aluImm .sbc n s

/-- AND A,n8 (E6; R458). -/
def execAndA_N8 (n : Byte) (s : State) : Result := aluImm .and n s

/-- XOR A,n8 (EE; R459). -/
def execXorA_N8 (n : Byte) (s : State) : Result := aluImm .xor n s

/-- OR A,n8 (F6; R460). -/
def execOrA_N8 (n : Byte) (s : State) : Result := aluImm .or n s

/-- CP A,n8 (FE; R461). -/
def execCpA_N8 (n : Byte) (s : State) : Result := aluImm .cp n s

end Sys2Proof.Machine
end

