-- ==== Sys2Proof/Machine/Bit.lean ====
section
/-! DEFINITION. Single-bit test, reset and set (44_bit.md): shared forms, then one meaning per instruction. The bit index is a `Fin 8`,
which is the type R574 names for a standalone entry. -/

namespace Sys2Proof.Machine

/-- `BIT b, R8[z]`: a read, and no write (R570, R571). -/
def testBit (b : Fin 8) (x : R8) (s : State) : Result :=
  .next (retire 2 (if isIndirect x then 12 else 8) ((r8After x s).setFlags (bitFlags b (r8Val x s) s.regs.flags)))

/-- `RES b, R8[z]`: the read, then the write, always (R570, R572). -/
def resBit (b : Fin 8) (x : R8) (s : State) : Result :=
  .next (retire 2 (if isIndirect x then 16 else 8) (r8Write x (clearBit b (r8Val x s)) (r8After x s)))

/-- `SET b, R8[z]`: the read, then the write, always (R570, R573). -/
def setBitR8 (b : Fin 8) (x : R8) (s : State) : Result :=
  .next (retire 2 (if isIndirect x then 16 else 8) (r8Write x (setBit b (r8Val x s)) (r8After x s)))

/-- BIT 0,B (CB 40; R571). -/
def execBit0_B (s : State) : Result := testBit 0 .b s

/-- BIT 0,C (CB 41; R571). -/
def execBit0_C (s : State) : Result := testBit 0 .c s

/-- BIT 0,D (CB 42; R571). -/
def execBit0_D (s : State) : Result := testBit 0 .d s

/-- BIT 0,E (CB 43; R571). -/
def execBit0_E (s : State) : Result := testBit 0 .e s

/-- BIT 0,H (CB 44; R571). -/
def execBit0_H (s : State) : Result := testBit 0 .h s

/-- BIT 0,L (CB 45; R571). -/
def execBit0_L (s : State) : Result := testBit 0 .l s

/-- BIT 0,(HL) (CB 46; R571). -/
def execBit0_IndHL (s : State) : Result := testBit 0 .hlInd s

/-- BIT 0,A (CB 47; R571). -/
def execBit0_A (s : State) : Result := testBit 0 .a s

/-- BIT 1,B (CB 48; R571). -/
def execBit1_B (s : State) : Result := testBit 1 .b s

/-- BIT 1,C (CB 49; R571). -/
def execBit1_C (s : State) : Result := testBit 1 .c s

/-- BIT 1,D (CB 4A; R571). -/
def execBit1_D (s : State) : Result := testBit 1 .d s

/-- BIT 1,E (CB 4B; R571). -/
def execBit1_E (s : State) : Result := testBit 1 .e s

/-- BIT 1,H (CB 4C; R571). -/
def execBit1_H (s : State) : Result := testBit 1 .h s

/-- BIT 1,L (CB 4D; R571). -/
def execBit1_L (s : State) : Result := testBit 1 .l s

/-- BIT 1,(HL) (CB 4E; R571). -/
def execBit1_IndHL (s : State) : Result := testBit 1 .hlInd s

/-- BIT 1,A (CB 4F; R571). -/
def execBit1_A (s : State) : Result := testBit 1 .a s

/-- BIT 2,B (CB 50; R571). -/
def execBit2_B (s : State) : Result := testBit 2 .b s

/-- BIT 2,C (CB 51; R571). -/
def execBit2_C (s : State) : Result := testBit 2 .c s

/-- BIT 2,D (CB 52; R571). -/
def execBit2_D (s : State) : Result := testBit 2 .d s

/-- BIT 2,E (CB 53; R571). -/
def execBit2_E (s : State) : Result := testBit 2 .e s

/-- BIT 2,H (CB 54; R571). -/
def execBit2_H (s : State) : Result := testBit 2 .h s

/-- BIT 2,L (CB 55; R571). -/
def execBit2_L (s : State) : Result := testBit 2 .l s

/-- BIT 2,(HL) (CB 56; R571). -/
def execBit2_IndHL (s : State) : Result := testBit 2 .hlInd s

/-- BIT 2,A (CB 57; R571). -/
def execBit2_A (s : State) : Result := testBit 2 .a s

/-- BIT 3,B (CB 58; R571). -/
def execBit3_B (s : State) : Result := testBit 3 .b s

/-- BIT 3,C (CB 59; R571). -/
def execBit3_C (s : State) : Result := testBit 3 .c s

/-- BIT 3,D (CB 5A; R571). -/
def execBit3_D (s : State) : Result := testBit 3 .d s

/-- BIT 3,E (CB 5B; R571). -/
def execBit3_E (s : State) : Result := testBit 3 .e s

/-- BIT 3,H (CB 5C; R571). -/
def execBit3_H (s : State) : Result := testBit 3 .h s

/-- BIT 3,L (CB 5D; R571). -/
def execBit3_L (s : State) : Result := testBit 3 .l s

/-- BIT 3,(HL) (CB 5E; R571). -/
def execBit3_IndHL (s : State) : Result := testBit 3 .hlInd s

/-- BIT 3,A (CB 5F; R571). -/
def execBit3_A (s : State) : Result := testBit 3 .a s

/-- BIT 4,B (CB 60; R571). -/
def execBit4_B (s : State) : Result := testBit 4 .b s

/-- BIT 4,C (CB 61; R571). -/
def execBit4_C (s : State) : Result := testBit 4 .c s

/-- BIT 4,D (CB 62; R571). -/
def execBit4_D (s : State) : Result := testBit 4 .d s

/-- BIT 4,E (CB 63; R571). -/
def execBit4_E (s : State) : Result := testBit 4 .e s

/-- BIT 4,H (CB 64; R571). -/
def execBit4_H (s : State) : Result := testBit 4 .h s

/-- BIT 4,L (CB 65; R571). -/
def execBit4_L (s : State) : Result := testBit 4 .l s

/-- BIT 4,(HL) (CB 66; R571). -/
def execBit4_IndHL (s : State) : Result := testBit 4 .hlInd s

/-- BIT 4,A (CB 67; R571). -/
def execBit4_A (s : State) : Result := testBit 4 .a s

/-- BIT 5,B (CB 68; R571). -/
def execBit5_B (s : State) : Result := testBit 5 .b s

/-- BIT 5,C (CB 69; R571). -/
def execBit5_C (s : State) : Result := testBit 5 .c s

/-- BIT 5,D (CB 6A; R571). -/
def execBit5_D (s : State) : Result := testBit 5 .d s

/-- BIT 5,E (CB 6B; R571). -/
def execBit5_E (s : State) : Result := testBit 5 .e s

/-- BIT 5,H (CB 6C; R571). -/
def execBit5_H (s : State) : Result := testBit 5 .h s

/-- BIT 5,L (CB 6D; R571). -/
def execBit5_L (s : State) : Result := testBit 5 .l s

/-- BIT 5,(HL) (CB 6E; R571). -/
def execBit5_IndHL (s : State) : Result := testBit 5 .hlInd s

/-- BIT 5,A (CB 6F; R571). -/
def execBit5_A (s : State) : Result := testBit 5 .a s

/-- BIT 6,B (CB 70; R571). -/
def execBit6_B (s : State) : Result := testBit 6 .b s

/-- BIT 6,C (CB 71; R571). -/
def execBit6_C (s : State) : Result := testBit 6 .c s

/-- BIT 6,D (CB 72; R571). -/
def execBit6_D (s : State) : Result := testBit 6 .d s

/-- BIT 6,E (CB 73; R571). -/
def execBit6_E (s : State) : Result := testBit 6 .e s

/-- BIT 6,H (CB 74; R571). -/
def execBit6_H (s : State) : Result := testBit 6 .h s

/-- BIT 6,L (CB 75; R571). -/
def execBit6_L (s : State) : Result := testBit 6 .l s

/-- BIT 6,(HL) (CB 76; R571). -/
def execBit6_IndHL (s : State) : Result := testBit 6 .hlInd s

/-- BIT 6,A (CB 77; R571). -/
def execBit6_A (s : State) : Result := testBit 6 .a s

/-- BIT 7,B (CB 78; R571). -/
def execBit7_B (s : State) : Result := testBit 7 .b s

/-- BIT 7,C (CB 79; R571). -/
def execBit7_C (s : State) : Result := testBit 7 .c s

/-- BIT 7,D (CB 7A; R571). -/
def execBit7_D (s : State) : Result := testBit 7 .d s

/-- BIT 7,E (CB 7B; R571). -/
def execBit7_E (s : State) : Result := testBit 7 .e s

/-- BIT 7,H (CB 7C; R571). -/
def execBit7_H (s : State) : Result := testBit 7 .h s

/-- BIT 7,L (CB 7D; R571). -/
def execBit7_L (s : State) : Result := testBit 7 .l s

/-- BIT 7,(HL) (CB 7E; R571). -/
def execBit7_IndHL (s : State) : Result := testBit 7 .hlInd s

/-- BIT 7,A (CB 7F; R571). -/
def execBit7_A (s : State) : Result := testBit 7 .a s

/-- RES 0,B (CB 80; R572). -/
def execRes0_B (s : State) : Result := resBit 0 .b s

/-- RES 0,C (CB 81; R572). -/
def execRes0_C (s : State) : Result := resBit 0 .c s

/-- RES 0,D (CB 82; R572). -/
def execRes0_D (s : State) : Result := resBit 0 .d s

/-- RES 0,E (CB 83; R572). -/
def execRes0_E (s : State) : Result := resBit 0 .e s

/-- RES 0,H (CB 84; R572). -/
def execRes0_H (s : State) : Result := resBit 0 .h s

/-- RES 0,L (CB 85; R572). -/
def execRes0_L (s : State) : Result := resBit 0 .l s

/-- RES 0,(HL) (CB 86; R572). -/
def execRes0_IndHL (s : State) : Result := resBit 0 .hlInd s

/-- RES 0,A (CB 87; R572). -/
def execRes0_A (s : State) : Result := resBit 0 .a s

/-- RES 1,B (CB 88; R572). -/
def execRes1_B (s : State) : Result := resBit 1 .b s

/-- RES 1,C (CB 89; R572). -/
def execRes1_C (s : State) : Result := resBit 1 .c s

/-- RES 1,D (CB 8A; R572). -/
def execRes1_D (s : State) : Result := resBit 1 .d s

/-- RES 1,E (CB 8B; R572). -/
def execRes1_E (s : State) : Result := resBit 1 .e s

/-- RES 1,H (CB 8C; R572). -/
def execRes1_H (s : State) : Result := resBit 1 .h s

/-- RES 1,L (CB 8D; R572). -/
def execRes1_L (s : State) : Result := resBit 1 .l s

/-- RES 1,(HL) (CB 8E; R572). -/
def execRes1_IndHL (s : State) : Result := resBit 1 .hlInd s

/-- RES 1,A (CB 8F; R572). -/
def execRes1_A (s : State) : Result := resBit 1 .a s

/-- RES 2,B (CB 90; R572). -/
def execRes2_B (s : State) : Result := resBit 2 .b s

/-- RES 2,C (CB 91; R572). -/
def execRes2_C (s : State) : Result := resBit 2 .c s

/-- RES 2,D (CB 92; R572). -/
def execRes2_D (s : State) : Result := resBit 2 .d s

/-- RES 2,E (CB 93; R572). -/
def execRes2_E (s : State) : Result := resBit 2 .e s

/-- RES 2,H (CB 94; R572). -/
def execRes2_H (s : State) : Result := resBit 2 .h s

/-- RES 2,L (CB 95; R572). -/
def execRes2_L (s : State) : Result := resBit 2 .l s

/-- RES 2,(HL) (CB 96; R572). -/
def execRes2_IndHL (s : State) : Result := resBit 2 .hlInd s

/-- RES 2,A (CB 97; R572). -/
def execRes2_A (s : State) : Result := resBit 2 .a s

/-- RES 3,B (CB 98; R572). -/
def execRes3_B (s : State) : Result := resBit 3 .b s

/-- RES 3,C (CB 99; R572). -/
def execRes3_C (s : State) : Result := resBit 3 .c s

/-- RES 3,D (CB 9A; R572). -/
def execRes3_D (s : State) : Result := resBit 3 .d s

/-- RES 3,E (CB 9B; R572). -/
def execRes3_E (s : State) : Result := resBit 3 .e s

/-- RES 3,H (CB 9C; R572). -/
def execRes3_H (s : State) : Result := resBit 3 .h s

/-- RES 3,L (CB 9D; R572). -/
def execRes3_L (s : State) : Result := resBit 3 .l s

/-- RES 3,(HL) (CB 9E; R572). -/
def execRes3_IndHL (s : State) : Result := resBit 3 .hlInd s

/-- RES 3,A (CB 9F; R572). -/
def execRes3_A (s : State) : Result := resBit 3 .a s

/-- RES 4,B (CB A0; R572). -/
def execRes4_B (s : State) : Result := resBit 4 .b s

/-- RES 4,C (CB A1; R572). -/
def execRes4_C (s : State) : Result := resBit 4 .c s

/-- RES 4,D (CB A2; R572). -/
def execRes4_D (s : State) : Result := resBit 4 .d s

/-- RES 4,E (CB A3; R572). -/
def execRes4_E (s : State) : Result := resBit 4 .e s

/-- RES 4,H (CB A4; R572). -/
def execRes4_H (s : State) : Result := resBit 4 .h s

/-- RES 4,L (CB A5; R572). -/
def execRes4_L (s : State) : Result := resBit 4 .l s

/-- RES 4,(HL) (CB A6; R572). -/
def execRes4_IndHL (s : State) : Result := resBit 4 .hlInd s

/-- RES 4,A (CB A7; R572). -/
def execRes4_A (s : State) : Result := resBit 4 .a s

/-- RES 5,B (CB A8; R572). -/
def execRes5_B (s : State) : Result := resBit 5 .b s

/-- RES 5,C (CB A9; R572). -/
def execRes5_C (s : State) : Result := resBit 5 .c s

/-- RES 5,D (CB AA; R572). -/
def execRes5_D (s : State) : Result := resBit 5 .d s

/-- RES 5,E (CB AB; R572). -/
def execRes5_E (s : State) : Result := resBit 5 .e s

/-- RES 5,H (CB AC; R572). -/
def execRes5_H (s : State) : Result := resBit 5 .h s

/-- RES 5,L (CB AD; R572). -/
def execRes5_L (s : State) : Result := resBit 5 .l s

/-- RES 5,(HL) (CB AE; R572). -/
def execRes5_IndHL (s : State) : Result := resBit 5 .hlInd s

/-- RES 5,A (CB AF; R572). -/
def execRes5_A (s : State) : Result := resBit 5 .a s

/-- RES 6,B (CB B0; R572). -/
def execRes6_B (s : State) : Result := resBit 6 .b s

/-- RES 6,C (CB B1; R572). -/
def execRes6_C (s : State) : Result := resBit 6 .c s

/-- RES 6,D (CB B2; R572). -/
def execRes6_D (s : State) : Result := resBit 6 .d s

/-- RES 6,E (CB B3; R572). -/
def execRes6_E (s : State) : Result := resBit 6 .e s

/-- RES 6,H (CB B4; R572). -/
def execRes6_H (s : State) : Result := resBit 6 .h s

/-- RES 6,L (CB B5; R572). -/
def execRes6_L (s : State) : Result := resBit 6 .l s

/-- RES 6,(HL) (CB B6; R572). -/
def execRes6_IndHL (s : State) : Result := resBit 6 .hlInd s

/-- RES 6,A (CB B7; R572). -/
def execRes6_A (s : State) : Result := resBit 6 .a s

/-- RES 7,B (CB B8; R572). -/
def execRes7_B (s : State) : Result := resBit 7 .b s

/-- RES 7,C (CB B9; R572). -/
def execRes7_C (s : State) : Result := resBit 7 .c s

/-- RES 7,D (CB BA; R572). -/
def execRes7_D (s : State) : Result := resBit 7 .d s

/-- RES 7,E (CB BB; R572). -/
def execRes7_E (s : State) : Result := resBit 7 .e s

/-- RES 7,H (CB BC; R572). -/
def execRes7_H (s : State) : Result := resBit 7 .h s

/-- RES 7,L (CB BD; R572). -/
def execRes7_L (s : State) : Result := resBit 7 .l s

/-- RES 7,(HL) (CB BE; R572). -/
def execRes7_IndHL (s : State) : Result := resBit 7 .hlInd s

/-- RES 7,A (CB BF; R572). -/
def execRes7_A (s : State) : Result := resBit 7 .a s

/-- SET 0,B (CB C0; R573). -/
def execSet0_B (s : State) : Result := setBitR8 0 .b s

/-- SET 0,C (CB C1; R573). -/
def execSet0_C (s : State) : Result := setBitR8 0 .c s

/-- SET 0,D (CB C2; R573). -/
def execSet0_D (s : State) : Result := setBitR8 0 .d s

/-- SET 0,E (CB C3; R573). -/
def execSet0_E (s : State) : Result := setBitR8 0 .e s

/-- SET 0,H (CB C4; R573). -/
def execSet0_H (s : State) : Result := setBitR8 0 .h s

/-- SET 0,L (CB C5; R573). -/
def execSet0_L (s : State) : Result := setBitR8 0 .l s

/-- SET 0,(HL) (CB C6; R573). -/
def execSet0_IndHL (s : State) : Result := setBitR8 0 .hlInd s

/-- SET 0,A (CB C7; R573). -/
def execSet0_A (s : State) : Result := setBitR8 0 .a s

/-- SET 1,B (CB C8; R573). -/
def execSet1_B (s : State) : Result := setBitR8 1 .b s

/-- SET 1,C (CB C9; R573). -/
def execSet1_C (s : State) : Result := setBitR8 1 .c s

/-- SET 1,D (CB CA; R573). -/
def execSet1_D (s : State) : Result := setBitR8 1 .d s

/-- SET 1,E (CB CB; R573). -/
def execSet1_E (s : State) : Result := setBitR8 1 .e s

/-- SET 1,H (CB CC; R573). -/
def execSet1_H (s : State) : Result := setBitR8 1 .h s

/-- SET 1,L (CB CD; R573). -/
def execSet1_L (s : State) : Result := setBitR8 1 .l s

/-- SET 1,(HL) (CB CE; R573). -/
def execSet1_IndHL (s : State) : Result := setBitR8 1 .hlInd s

/-- SET 1,A (CB CF; R573). -/
def execSet1_A (s : State) : Result := setBitR8 1 .a s

/-- SET 2,B (CB D0; R573). -/
def execSet2_B (s : State) : Result := setBitR8 2 .b s

/-- SET 2,C (CB D1; R573). -/
def execSet2_C (s : State) : Result := setBitR8 2 .c s

/-- SET 2,D (CB D2; R573). -/
def execSet2_D (s : State) : Result := setBitR8 2 .d s

/-- SET 2,E (CB D3; R573). -/
def execSet2_E (s : State) : Result := setBitR8 2 .e s

/-- SET 2,H (CB D4; R573). -/
def execSet2_H (s : State) : Result := setBitR8 2 .h s

/-- SET 2,L (CB D5; R573). -/
def execSet2_L (s : State) : Result := setBitR8 2 .l s

/-- SET 2,(HL) (CB D6; R573). -/
def execSet2_IndHL (s : State) : Result := setBitR8 2 .hlInd s

/-- SET 2,A (CB D7; R573). -/
def execSet2_A (s : State) : Result := setBitR8 2 .a s

/-- SET 3,B (CB D8; R573). -/
def execSet3_B (s : State) : Result := setBitR8 3 .b s

/-- SET 3,C (CB D9; R573). -/
def execSet3_C (s : State) : Result := setBitR8 3 .c s

/-- SET 3,D (CB DA; R573). -/
def execSet3_D (s : State) : Result := setBitR8 3 .d s

/-- SET 3,E (CB DB; R573). -/
def execSet3_E (s : State) : Result := setBitR8 3 .e s

/-- SET 3,H (CB DC; R573). -/
def execSet3_H (s : State) : Result := setBitR8 3 .h s

/-- SET 3,L (CB DD; R573). -/
def execSet3_L (s : State) : Result := setBitR8 3 .l s

/-- SET 3,(HL) (CB DE; R573). -/
def execSet3_IndHL (s : State) : Result := setBitR8 3 .hlInd s

/-- SET 3,A (CB DF; R573). -/
def execSet3_A (s : State) : Result := setBitR8 3 .a s

/-- SET 4,B (CB E0; R573). -/
def execSet4_B (s : State) : Result := setBitR8 4 .b s

/-- SET 4,C (CB E1; R573). -/
def execSet4_C (s : State) : Result := setBitR8 4 .c s

/-- SET 4,D (CB E2; R573). -/
def execSet4_D (s : State) : Result := setBitR8 4 .d s

/-- SET 4,E (CB E3; R573). -/
def execSet4_E (s : State) : Result := setBitR8 4 .e s

/-- SET 4,H (CB E4; R573). -/
def execSet4_H (s : State) : Result := setBitR8 4 .h s

/-- SET 4,L (CB E5; R573). -/
def execSet4_L (s : State) : Result := setBitR8 4 .l s

/-- SET 4,(HL) (CB E6; R573). -/
def execSet4_IndHL (s : State) : Result := setBitR8 4 .hlInd s

/-- SET 4,A (CB E7; R573). -/
def execSet4_A (s : State) : Result := setBitR8 4 .a s

/-- SET 5,B (CB E8; R573). -/
def execSet5_B (s : State) : Result := setBitR8 5 .b s

/-- SET 5,C (CB E9; R573). -/
def execSet5_C (s : State) : Result := setBitR8 5 .c s

/-- SET 5,D (CB EA; R573). -/
def execSet5_D (s : State) : Result := setBitR8 5 .d s

/-- SET 5,E (CB EB; R573). -/
def execSet5_E (s : State) : Result := setBitR8 5 .e s

/-- SET 5,H (CB EC; R573). -/
def execSet5_H (s : State) : Result := setBitR8 5 .h s

/-- SET 5,L (CB ED; R573). -/
def execSet5_L (s : State) : Result := setBitR8 5 .l s

/-- SET 5,(HL) (CB EE; R573). -/
def execSet5_IndHL (s : State) : Result := setBitR8 5 .hlInd s

/-- SET 5,A (CB EF; R573). -/
def execSet5_A (s : State) : Result := setBitR8 5 .a s

/-- SET 6,B (CB F0; R573). -/
def execSet6_B (s : State) : Result := setBitR8 6 .b s

/-- SET 6,C (CB F1; R573). -/
def execSet6_C (s : State) : Result := setBitR8 6 .c s

/-- SET 6,D (CB F2; R573). -/
def execSet6_D (s : State) : Result := setBitR8 6 .d s

/-- SET 6,E (CB F3; R573). -/
def execSet6_E (s : State) : Result := setBitR8 6 .e s

/-- SET 6,H (CB F4; R573). -/
def execSet6_H (s : State) : Result := setBitR8 6 .h s

/-- SET 6,L (CB F5; R573). -/
def execSet6_L (s : State) : Result := setBitR8 6 .l s

/-- SET 6,(HL) (CB F6; R573). -/
def execSet6_IndHL (s : State) : Result := setBitR8 6 .hlInd s

/-- SET 6,A (CB F7; R573). -/
def execSet6_A (s : State) : Result := setBitR8 6 .a s

/-- SET 7,B (CB F8; R573). -/
def execSet7_B (s : State) : Result := setBitR8 7 .b s

/-- SET 7,C (CB F9; R573). -/
def execSet7_C (s : State) : Result := setBitR8 7 .c s

/-- SET 7,D (CB FA; R573). -/
def execSet7_D (s : State) : Result := setBitR8 7 .d s

/-- SET 7,E (CB FB; R573). -/
def execSet7_E (s : State) : Result := setBitR8 7 .e s

/-- SET 7,H (CB FC; R573). -/
def execSet7_H (s : State) : Result := setBitR8 7 .h s

/-- SET 7,L (CB FD; R573). -/
def execSet7_L (s : State) : Result := setBitR8 7 .l s

/-- SET 7,(HL) (CB FE; R573). -/
def execSet7_IndHL (s : State) : Result := setBitR8 7 .hlInd s

/-- SET 7,A (CB FF; R573). -/
def execSet7_A (s : State) : Result := setBitR8 7 .a s

end Sys2Proof.Machine
end

