-- ==== Sys2Proof/Machine/Control.lean ====
section
/-! DEFINITION. Jumps, calls, returns and restarts (45_control.md): shared forms, then one meaning per instruction. -/

namespace Sys2Proof.Machine

/-- `JP cc,a16` (R600, R602). -/
def jumpIf (cc : Cond) (target : Word) (s : State) : Result :=
  let go := condHolds cc s.regs.flags
  let t := condCost s go 16 12
  .next (if go then jumpTo target t s else retire 3 t s)

/-- `JR cc,e8` (R600, R605). -/
def jumpRelativeIf (cc : Cond) (e : Byte) (s : State) : Result :=
  let go := condHolds cc s.regs.flags
  let t := condCost s go 12 8
  .next (if go then jumpTo (relativeTarget s.regs.pc e) t s else retire 2 t s)

/-- `CALL cc,a16`: not taken, there is no stack access (R600, R607). -/
def callIf (cc : Cond) (target : Word) (s : State) : Result :=
  let go := condHolds cc s.regs.flags
  let t := condCost s go 24 12
  .next (if go then jumpTo target t (push16 (nextPc 3 s) s) else retire 3 t s)

/-- `RET cc`: not taken, there is no stack access (R600, R609). -/
def returnIf (cc : Cond) (s : State) : Result :=
  let go := condHolds cc s.regs.flags
  let t := condCost s go 20 8
  .next (if go then jumpTo (popVal s) t (popAfter s) else retire 1 t s)

/-- `RST n` (R610). -/
def restart (vector : Word) (s : State) : Result := .next (jumpTo vector 16 (push16 (nextPc 1 s) s))

/-- JR e8 (18; R604). -/
def execJrE8 (e : Byte) (s : State) : Result := .next (jumpTo (relativeTarget s.regs.pc e) 12 s)

/-- JR NZ,e8 (20; R605). -/
def execJrNZ_E8 (e : Byte) (s : State) : Result := jumpRelativeIf .nz e s

/-- JR Z,e8 (28; R605). -/
def execJrZ_E8 (e : Byte) (s : State) : Result := jumpRelativeIf .z e s

/-- JR NC,e8 (30; R605). -/
def execJrNC_E8 (e : Byte) (s : State) : Result := jumpRelativeIf .nc e s

/-- JR C,e8 (38; R605). -/
def execJrC_E8 (e : Byte) (s : State) : Result := jumpRelativeIf .c e s

/-- RET NZ (C0; R609). -/
def execRetNZ (s : State) : Result := returnIf .nz s

/-- JP NZ,a16 (C2; R602). -/
def execJpNZ_A16 (aa : Word) (s : State) : Result := jumpIf .nz aa s

/-- JP a16 (C3; R601). -/
def execJpA16 (aa : Word) (s : State) : Result := .next (jumpTo aa 16 s)

/-- CALL NZ,a16 (C4; R607). -/
def execCallNZ_A16 (aa : Word) (s : State) : Result := callIf .nz aa s

/-- RST 0x00 (C7; R610). -/
def execRst00 (s : State) : Result := restart 0x00 s

/-- RET Z (C8; R609). -/
def execRetZ (s : State) : Result := returnIf .z s

/-- RET (C9; R608). -/
def execRet (s : State) : Result := .next (jumpTo (popVal s) 16 (popAfter s))

/-- JP Z,a16 (CA; R602). -/
def execJpZ_A16 (aa : Word) (s : State) : Result := jumpIf .z aa s

/-- CALL Z,a16 (CC; R607). -/
def execCallZ_A16 (aa : Word) (s : State) : Result := callIf .z aa s

/-- CALL a16 (CD; R606). -/
def execCallA16 (aa : Word) (s : State) : Result := .next (jumpTo aa 24 (push16 (nextPc 3 s) s))

/-- RST 0x08 (CF; R610). -/
def execRst08 (s : State) : Result := restart 0x08 s

/-- RET NC (D0; R609). -/
def execRetNC (s : State) : Result := returnIf .nc s

/-- JP NC,a16 (D2; R602). -/
def execJpNC_A16 (aa : Word) (s : State) : Result := jumpIf .nc aa s

/-- CALL NC,a16 (D4; R607). -/
def execCallNC_A16 (aa : Word) (s : State) : Result := callIf .nc aa s

/-- RST 0x10 (D7; R610). -/
def execRst10 (s : State) : Result := restart 0x10 s

/-- RET C (D8; R609). -/
def execRetC (s : State) : Result := returnIf .c s

/-- RETI (D9; R611). -/
def execReti (s : State) : Result := .next (returnFromInterrupt 16 s)

/-- JP C,a16 (DA; R602). -/
def execJpC_A16 (aa : Word) (s : State) : Result := jumpIf .c aa s

/-- CALL C,a16 (DC; R607). -/
def execCallC_A16 (aa : Word) (s : State) : Result := callIf .c aa s

/-- RST 0x18 (DF; R610). -/
def execRst18 (s : State) : Result := restart 0x18 s

/-- RST 0x20 (E7; R610). -/
def execRst20 (s : State) : Result := restart 0x20 s

/-- JP HL (E9; R603). -/
def execJpHL (s : State) : Result := .next (jumpTo s.hl 4 s)

/-- RST 0x28 (EF; R610). -/
def execRst28 (s : State) : Result := restart 0x28 s

/-- RST 0x30 (F7; R610). -/
def execRst30 (s : State) : Result := restart 0x30 s

/-- RST 0x38 (FF; R610). -/
def execRst38 (s : State) : Result := restart 0x38 s

end Sys2Proof.Machine
end

