-- ==== Sys2Proof/Machine/Load.lean ====
section
/-! DEFINITION. Loads, stores and stack transfers (40_load.md): shared forms, then one meaning per instruction. -/

namespace Sys2Proof.Machine

/-- `R8[dst] <- R8[src]` in one byte: 8 ticks when an operand is (HL), else 4 (R401, R403, R404). -/
def loadR8 (dst src : R8) (s : State) : Result :=
  .next (retire 1 (if isIndirect dst || isIndirect src then 8 else 4) (r8Write dst (r8Val src s) (r8After src s)))

/-- `R8[dst] <- n8` (R402, R405). -/
def loadImm8 (dst : R8) (n : Byte) (s : State) : Result :=
  .next (retire 2 (if isIndirect dst then 12 else 8) (r8Write dst n s))

/-- `A <- MemRead(a, 1)` (R406, R408, R410, R412). -/
def loadA (a : Word) (len ticks : Nat) (s : State) : Result :=
  .next (retire len ticks ((afterRead a s).setA (readVal a s)))

/-- `MemWrite(a, 1, A)` (R407, R409, R411, R413). -/
def storeA (a : Word) (len ticks : Nat) (s : State) : Result :=
  .next (retire len ticks (memWrite a s.regs.a s))

/-- `A <- MemRead(HL, 1); HL <- HL + step` (R415, R417). -/
def loadAStep (step : Word) (s : State) : Result :=
  .next (retire 1 8 (((afterRead s.hl s).setA (readVal s.hl s)).setHl (s.hl + step)))

/-- `MemWrite(HL, 1, A); HL <- HL + step` (R414, R416). -/
def storeAStep (step : Word) (s : State) : Result :=
  .next (retire 1 8 ((memWrite s.hl s.regs.a s).setHl (s.hl + step)))

/-- `R16[p] <- n16` (R418). -/
def loadImm16 (p : R16) (nn : Word) (s : State) : Result := .next (retire 3 12 (r16Write p nn s))

/-- `R16P[p] <- Pop16()` (R421). -/
def popPair (p : R16P) (s : State) : Result := .next (retire 1 12 (r16pWrite p (popVal s) (popAfter s)))

/-- `Push16(R16P[p])` (R422). -/
def pushPair (p : R16P) (s : State) : Result := .next (retire 1 16 (push16 (r16pVal p s) s))

/-- LD BC,n16 (01; R418). -/
def execLdBC_N16 (nn : Word) (s : State) : Result := loadImm16 .bc nn s

/-- LD (BC),A (02; R407). -/
def execLdIndBC_A (s : State) : Result := storeA s.bc 1 8 s

/-- LD B,n8 (06; R402). -/
def execLdB_N8 (n : Byte) (s : State) : Result := loadImm8 .b n s

/-- LD (a16),SP (08; R419). -/
def execLdIndA16_SP (aa : Word) (s : State) : Result := .next (retire 3 20 (writeWord aa s.regs.sp s))

/-- LD A,(BC) (0A; R406). -/
def execLdA_IndBC (s : State) : Result := loadA s.bc 1 8 s

/-- LD C,n8 (0E; R402). -/
def execLdC_N8 (n : Byte) (s : State) : Result := loadImm8 .c n s

/-- LD DE,n16 (11; R418). -/
def execLdDE_N16 (nn : Word) (s : State) : Result := loadImm16 .de nn s

/-- LD (DE),A (12; R407). -/
def execLdIndDE_A (s : State) : Result := storeA s.de 1 8 s

/-- LD D,n8 (16; R402). -/
def execLdD_N8 (n : Byte) (s : State) : Result := loadImm8 .d n s

/-- LD A,(DE) (1A; R406). -/
def execLdA_IndDE (s : State) : Result := loadA s.de 1 8 s

/-- LD E,n8 (1E; R402). -/
def execLdE_N8 (n : Byte) (s : State) : Result := loadImm8 .e n s

/-- LD HL,n16 (21; R418). -/
def execLdHL_N16 (nn : Word) (s : State) : Result := loadImm16 .hl nn s

/-- LD (HL+),A (22; R414). -/
def execLdIndHLInc_A (s : State) : Result := storeAStep 1 s

/-- LD H,n8 (26; R402). -/
def execLdH_N8 (n : Byte) (s : State) : Result := loadImm8 .h n s

/-- LD A,(HL+) (2A; R415). -/
def execLdA_IndHLInc (s : State) : Result := loadAStep 1 s

/-- LD L,n8 (2E; R402). -/
def execLdL_N8 (n : Byte) (s : State) : Result := loadImm8 .l n s

/-- LD SP,n16 (31; R418). -/
def execLdSP_N16 (nn : Word) (s : State) : Result := loadImm16 .sp nn s

/-- LD (HL-),A (32; R416). -/
def execLdIndHLDec_A (s : State) : Result := storeAStep (-1) s

/-- LD (HL),n8 (36; R405). -/
def execLdIndHL_N8 (n : Byte) (s : State) : Result := loadImm8 .hlInd n s

/-- LD A,(HL-) (3A; R417). -/
def execLdA_IndHLDec (s : State) : Result := loadAStep (-1) s

/-- LD A,n8 (3E; R402). -/
def execLdA_N8 (n : Byte) (s : State) : Result := loadImm8 .a n s

/-- LD B,B (40; R401). -/
def execLdB_B (s : State) : Result := loadR8 .b .b s

/-- LD B,C (41; R401). -/
def execLdB_C (s : State) : Result := loadR8 .b .c s

/-- LD B,D (42; R401). -/
def execLdB_D (s : State) : Result := loadR8 .b .d s

/-- LD B,E (43; R401). -/
def execLdB_E (s : State) : Result := loadR8 .b .e s

/-- LD B,H (44; R401). -/
def execLdB_H (s : State) : Result := loadR8 .b .h s

/-- LD B,L (45; R401). -/
def execLdB_L (s : State) : Result := loadR8 .b .l s

/-- LD B,(HL) (46; R403). -/
def execLdB_IndHL (s : State) : Result := loadR8 .b .hlInd s

/-- LD B,A (47; R401). -/
def execLdB_A (s : State) : Result := loadR8 .b .a s

/-- LD C,B (48; R401). -/
def execLdC_B (s : State) : Result := loadR8 .c .b s

/-- LD C,C (49; R401). -/
def execLdC_C (s : State) : Result := loadR8 .c .c s

/-- LD C,D (4A; R401). -/
def execLdC_D (s : State) : Result := loadR8 .c .d s

/-- LD C,E (4B; R401). -/
def execLdC_E (s : State) : Result := loadR8 .c .e s

/-- LD C,H (4C; R401). -/
def execLdC_H (s : State) : Result := loadR8 .c .h s

/-- LD C,L (4D; R401). -/
def execLdC_L (s : State) : Result := loadR8 .c .l s

/-- LD C,(HL) (4E; R403). -/
def execLdC_IndHL (s : State) : Result := loadR8 .c .hlInd s

/-- LD C,A (4F; R401). -/
def execLdC_A (s : State) : Result := loadR8 .c .a s

/-- LD D,B (50; R401). -/
def execLdD_B (s : State) : Result := loadR8 .d .b s

/-- LD D,C (51; R401). -/
def execLdD_C (s : State) : Result := loadR8 .d .c s

/-- LD D,D (52; R401). -/
def execLdD_D (s : State) : Result := loadR8 .d .d s

/-- LD D,E (53; R401). -/
def execLdD_E (s : State) : Result := loadR8 .d .e s

/-- LD D,H (54; R401). -/
def execLdD_H (s : State) : Result := loadR8 .d .h s

/-- LD D,L (55; R401). -/
def execLdD_L (s : State) : Result := loadR8 .d .l s

/-- LD D,(HL) (56; R403). -/
def execLdD_IndHL (s : State) : Result := loadR8 .d .hlInd s

/-- LD D,A (57; R401). -/
def execLdD_A (s : State) : Result := loadR8 .d .a s

/-- LD E,B (58; R401). -/
def execLdE_B (s : State) : Result := loadR8 .e .b s

/-- LD E,C (59; R401). -/
def execLdE_C (s : State) : Result := loadR8 .e .c s

/-- LD E,D (5A; R401). -/
def execLdE_D (s : State) : Result := loadR8 .e .d s

/-- LD E,E (5B; R401). -/
def execLdE_E (s : State) : Result := loadR8 .e .e s

/-- LD E,H (5C; R401). -/
def execLdE_H (s : State) : Result := loadR8 .e .h s

/-- LD E,L (5D; R401). -/
def execLdE_L (s : State) : Result := loadR8 .e .l s

/-- LD E,(HL) (5E; R403). -/
def execLdE_IndHL (s : State) : Result := loadR8 .e .hlInd s

/-- LD E,A (5F; R401). -/
def execLdE_A (s : State) : Result := loadR8 .e .a s

/-- LD H,B (60; R401). -/
def execLdH_B (s : State) : Result := loadR8 .h .b s

/-- LD H,C (61; R401). -/
def execLdH_C (s : State) : Result := loadR8 .h .c s

/-- LD H,D (62; R401). -/
def execLdH_D (s : State) : Result := loadR8 .h .d s

/-- LD H,E (63; R401). -/
def execLdH_E (s : State) : Result := loadR8 .h .e s

/-- LD H,H (64; R401). -/
def execLdH_H (s : State) : Result := loadR8 .h .h s

/-- LD H,L (65; R401). -/
def execLdH_L (s : State) : Result := loadR8 .h .l s

/-- LD H,(HL) (66; R403). -/
def execLdH_IndHL (s : State) : Result := loadR8 .h .hlInd s

/-- LD H,A (67; R401). -/
def execLdH_A (s : State) : Result := loadR8 .h .a s

/-- LD L,B (68; R401). -/
def execLdL_B (s : State) : Result := loadR8 .l .b s

/-- LD L,C (69; R401). -/
def execLdL_C (s : State) : Result := loadR8 .l .c s

/-- LD L,D (6A; R401). -/
def execLdL_D (s : State) : Result := loadR8 .l .d s

/-- LD L,E (6B; R401). -/
def execLdL_E (s : State) : Result := loadR8 .l .e s

/-- LD L,H (6C; R401). -/
def execLdL_H (s : State) : Result := loadR8 .l .h s

/-- LD L,L (6D; R401). -/
def execLdL_L (s : State) : Result := loadR8 .l .l s

/-- LD L,(HL) (6E; R403). -/
def execLdL_IndHL (s : State) : Result := loadR8 .l .hlInd s

/-- LD L,A (6F; R401). -/
def execLdL_A (s : State) : Result := loadR8 .l .a s

/-- LD (HL),B (70; R404). -/
def execLdIndHL_B (s : State) : Result := loadR8 .hlInd .b s

/-- LD (HL),C (71; R404). -/
def execLdIndHL_C (s : State) : Result := loadR8 .hlInd .c s

/-- LD (HL),D (72; R404). -/
def execLdIndHL_D (s : State) : Result := loadR8 .hlInd .d s

/-- LD (HL),E (73; R404). -/
def execLdIndHL_E (s : State) : Result := loadR8 .hlInd .e s

/-- LD (HL),H (74; R404). -/
def execLdIndHL_H (s : State) : Result := loadR8 .hlInd .h s

/-- LD (HL),L (75; R404). -/
def execLdIndHL_L (s : State) : Result := loadR8 .hlInd .l s

/-- LD (HL),A (77; R404). -/
def execLdIndHL_A (s : State) : Result := loadR8 .hlInd .a s

/-- LD A,B (78; R401). -/
def execLdA_B (s : State) : Result := loadR8 .a .b s

/-- LD A,C (79; R401). -/
def execLdA_C (s : State) : Result := loadR8 .a .c s

/-- LD A,D (7A; R401). -/
def execLdA_D (s : State) : Result := loadR8 .a .d s

/-- LD A,E (7B; R401). -/
def execLdA_E (s : State) : Result := loadR8 .a .e s

/-- LD A,H (7C; R401). -/
def execLdA_H (s : State) : Result := loadR8 .a .h s

/-- LD A,L (7D; R401). -/
def execLdA_L (s : State) : Result := loadR8 .a .l s

/-- LD A,(HL) (7E; R403). -/
def execLdA_IndHL (s : State) : Result := loadR8 .a .hlInd s

/-- LD A,A (7F; R401). -/
def execLdA_A (s : State) : Result := loadR8 .a .a s

/-- POP BC (C1; R421). -/
def execPopBC (s : State) : Result := popPair .bc s

/-- PUSH BC (C5; R422). -/
def execPushBC (s : State) : Result := pushPair .bc s

/-- POP DE (D1; R421). -/
def execPopDE (s : State) : Result := popPair .de s

/-- PUSH DE (D5; R422). -/
def execPushDE (s : State) : Result := pushPair .de s

/-- LDH (a8),A (E0; R411). -/
def execLdhIndA8_A (a : Byte) (s : State) : Result := storeA (highPage a) 2 12 s

/-- POP HL (E1; R421). -/
def execPopHL (s : State) : Result := popPair .hl s

/-- LD (C),A (E2; R413). -/
def execLdIndC_A (s : State) : Result := storeA (highPage s.regs.c) 1 8 s

/-- PUSH HL (E5; R422). -/
def execPushHL (s : State) : Result := pushPair .hl s

/-- LD (a16),A (EA; R409). -/
def execLdIndA16_A (aa : Word) (s : State) : Result := storeA aa 3 16 s

/-- LDH A,(a8) (F0; R410). -/
def execLdhA_IndA8 (a : Byte) (s : State) : Result := loadA (highPage a) 2 12 s

/-- POP AF (F1; R421). -/
def execPopAF (s : State) : Result := popPair .af s

/-- LD A,(C) (F2; R412). -/
def execLdA_IndC (s : State) : Result := loadA (highPage s.regs.c) 1 8 s

/-- PUSH AF (F5; R422). -/
def execPushAF (s : State) : Result := pushPair .af s

/-- LD SP,HL (F9; R420). -/
def execLdSP_HL (s : State) : Result := .next (retire 1 8 (s.setSp s.hl))

/-- LD A,(a16) (FA; R408). -/
def execLdA_IndA16 (aa : Word) (s : State) : Result := loadA aa 3 16 s

end Sys2Proof.Machine
end

