-- ==== Sys2Proof/Machine/RotateShift.lean ====
section
/-! DEFINITION. Rotates, shifts and nibble swap (43_rotate_shift.md): shared forms, then one meaning per instruction. -/

namespace Sys2Proof.Machine

/-- A rotate of A: Z is 0 whatever the result (R530 to R534). -/
def rotA (op : RotOp) (s : State) : Result :=
  let r := rotResult op s.regs.a s.regs.flags.c
  .next (retire 1 4 ((s.setA r.1).setFlags (accRotFlags r.2)))

/-- A CB rotate, shift or swap of an operand: the read, then the write, always (R530, R535 to R542). -/
def rotR8 (op : RotOp) (x : R8) (s : State) : Result :=
  let r := rotResult op (r8Val x s) s.regs.flags.c
  .next (retire 2 (if isIndirect x then 16 else 8) ((r8Write x r.1 (r8After x s)).setFlags (rotFlags r.1 r.2)))

/-- RLCA (07; R531). -/
def execRlca (s : State) : Result := rotA .rlc s

/-- RRCA (0F; R532). -/
def execRrca (s : State) : Result := rotA .rrc s

/-- RLA (17; R533). -/
def execRla (s : State) : Result := rotA .rl s

/-- RRA (1F; R534). -/
def execRra (s : State) : Result := rotA .rr s

/-- RLC B (CB 00; R535). -/
def execRlcB (s : State) : Result := rotR8 .rlc .b s

/-- RLC C (CB 01; R535). -/
def execRlcC (s : State) : Result := rotR8 .rlc .c s

/-- RLC D (CB 02; R535). -/
def execRlcD (s : State) : Result := rotR8 .rlc .d s

/-- RLC E (CB 03; R535). -/
def execRlcE (s : State) : Result := rotR8 .rlc .e s

/-- RLC H (CB 04; R535). -/
def execRlcH (s : State) : Result := rotR8 .rlc .h s

/-- RLC L (CB 05; R535). -/
def execRlcL (s : State) : Result := rotR8 .rlc .l s

/-- RLC (HL) (CB 06; R535). -/
def execRlcIndHL (s : State) : Result := rotR8 .rlc .hlInd s

/-- RLC A (CB 07; R535). -/
def execRlcA (s : State) : Result := rotR8 .rlc .a s

/-- RRC B (CB 08; R536). -/
def execRrcB (s : State) : Result := rotR8 .rrc .b s

/-- RRC C (CB 09; R536). -/
def execRrcC (s : State) : Result := rotR8 .rrc .c s

/-- RRC D (CB 0A; R536). -/
def execRrcD (s : State) : Result := rotR8 .rrc .d s

/-- RRC E (CB 0B; R536). -/
def execRrcE (s : State) : Result := rotR8 .rrc .e s

/-- RRC H (CB 0C; R536). -/
def execRrcH (s : State) : Result := rotR8 .rrc .h s

/-- RRC L (CB 0D; R536). -/
def execRrcL (s : State) : Result := rotR8 .rrc .l s

/-- RRC (HL) (CB 0E; R536). -/
def execRrcIndHL (s : State) : Result := rotR8 .rrc .hlInd s

/-- RRC A (CB 0F; R536). -/
def execRrcA (s : State) : Result := rotR8 .rrc .a s

/-- RL B (CB 10; R537). -/
def execRlB (s : State) : Result := rotR8 .rl .b s

/-- RL C (CB 11; R537). -/
def execRlC (s : State) : Result := rotR8 .rl .c s

/-- RL D (CB 12; R537). -/
def execRlD (s : State) : Result := rotR8 .rl .d s

/-- RL E (CB 13; R537). -/
def execRlE (s : State) : Result := rotR8 .rl .e s

/-- RL H (CB 14; R537). -/
def execRlH (s : State) : Result := rotR8 .rl .h s

/-- RL L (CB 15; R537). -/
def execRlL (s : State) : Result := rotR8 .rl .l s

/-- RL (HL) (CB 16; R537). -/
def execRlIndHL (s : State) : Result := rotR8 .rl .hlInd s

/-- RL A (CB 17; R537). -/
def execRlA (s : State) : Result := rotR8 .rl .a s

/-- RR B (CB 18; R538). -/
def execRrB (s : State) : Result := rotR8 .rr .b s

/-- RR C (CB 19; R538). -/
def execRrC (s : State) : Result := rotR8 .rr .c s

/-- RR D (CB 1A; R538). -/
def execRrD (s : State) : Result := rotR8 .rr .d s

/-- RR E (CB 1B; R538). -/
def execRrE (s : State) : Result := rotR8 .rr .e s

/-- RR H (CB 1C; R538). -/
def execRrH (s : State) : Result := rotR8 .rr .h s

/-- RR L (CB 1D; R538). -/
def execRrL (s : State) : Result := rotR8 .rr .l s

/-- RR (HL) (CB 1E; R538). -/
def execRrIndHL (s : State) : Result := rotR8 .rr .hlInd s

/-- RR A (CB 1F; R538). -/
def execRrA (s : State) : Result := rotR8 .rr .a s

/-- SLA B (CB 20; R539). -/
def execSlaB (s : State) : Result := rotR8 .sla .b s

/-- SLA C (CB 21; R539). -/
def execSlaC (s : State) : Result := rotR8 .sla .c s

/-- SLA D (CB 22; R539). -/
def execSlaD (s : State) : Result := rotR8 .sla .d s

/-- SLA E (CB 23; R539). -/
def execSlaE (s : State) : Result := rotR8 .sla .e s

/-- SLA H (CB 24; R539). -/
def execSlaH (s : State) : Result := rotR8 .sla .h s

/-- SLA L (CB 25; R539). -/
def execSlaL (s : State) : Result := rotR8 .sla .l s

/-- SLA (HL) (CB 26; R539). -/
def execSlaIndHL (s : State) : Result := rotR8 .sla .hlInd s

/-- SLA A (CB 27; R539). -/
def execSlaA (s : State) : Result := rotR8 .sla .a s

/-- SRA B (CB 28; R540). -/
def execSraB (s : State) : Result := rotR8 .sra .b s

/-- SRA C (CB 29; R540). -/
def execSraC (s : State) : Result := rotR8 .sra .c s

/-- SRA D (CB 2A; R540). -/
def execSraD (s : State) : Result := rotR8 .sra .d s

/-- SRA E (CB 2B; R540). -/
def execSraE (s : State) : Result := rotR8 .sra .e s

/-- SRA H (CB 2C; R540). -/
def execSraH (s : State) : Result := rotR8 .sra .h s

/-- SRA L (CB 2D; R540). -/
def execSraL (s : State) : Result := rotR8 .sra .l s

/-- SRA (HL) (CB 2E; R540). -/
def execSraIndHL (s : State) : Result := rotR8 .sra .hlInd s

/-- SRA A (CB 2F; R540). -/
def execSraA (s : State) : Result := rotR8 .sra .a s

/-- SWAP B (CB 30; R541). -/
def execSwapB (s : State) : Result := rotR8 .swap .b s

/-- SWAP C (CB 31; R541). -/
def execSwapC (s : State) : Result := rotR8 .swap .c s

/-- SWAP D (CB 32; R541). -/
def execSwapD (s : State) : Result := rotR8 .swap .d s

/-- SWAP E (CB 33; R541). -/
def execSwapE (s : State) : Result := rotR8 .swap .e s

/-- SWAP H (CB 34; R541). -/
def execSwapH (s : State) : Result := rotR8 .swap .h s

/-- SWAP L (CB 35; R541). -/
def execSwapL (s : State) : Result := rotR8 .swap .l s

/-- SWAP (HL) (CB 36; R541). -/
def execSwapIndHL (s : State) : Result := rotR8 .swap .hlInd s

/-- SWAP A (CB 37; R541). -/
def execSwapA (s : State) : Result := rotR8 .swap .a s

/-- SRL B (CB 38; R542). -/
def execSrlB (s : State) : Result := rotR8 .srl .b s

/-- SRL C (CB 39; R542). -/
def execSrlC (s : State) : Result := rotR8 .srl .c s

/-- SRL D (CB 3A; R542). -/
def execSrlD (s : State) : Result := rotR8 .srl .d s

/-- SRL E (CB 3B; R542). -/
def execSrlE (s : State) : Result := rotR8 .srl .e s

/-- SRL H (CB 3C; R542). -/
def execSrlH (s : State) : Result := rotR8 .srl .h s

/-- SRL L (CB 3D; R542). -/
def execSrlL (s : State) : Result := rotR8 .srl .l s

/-- SRL (HL) (CB 3E; R542). -/
def execSrlIndHL (s : State) : Result := rotR8 .srl .hlInd s

/-- SRL A (CB 3F; R542). -/
def execSrlA (s : State) : Result := rotR8 .srl .a s

end Sys2Proof.Machine
end

