-- ==== Sys2Proof/Machine/System.lean ====
section
/-! DEFINITION. Control and system instructions (46_system.md): the undefined opcodes' shared form, then one meaning per instruction. -/

namespace Sys2Proof.Machine

/-- An undefined opcode, by `INVALID_OPCODE_POLICY` (R310, R655). -/
def undefinedOp (op : Byte) (s : State) : Result :=
  match s.cfg.invalidOpcodePolicy with
  | .nop => .next (retire 1 s.cfg.undefTicks s)
  | .fault => .fault (.invalidOpcode op)

/-- NOP (00; R650). -/
def execNop (s : State) : Result := .next (retire 1 4 s)

/-- STOP (10; R652). -/
def execStop (s : State) : Result := .next (retire s.cfg.stopLength.bytes 4 { s with halted := true })

/-- HALT (76; R651). -/
def execHalt (s : State) : Result := .next (retire 1 4 { s with halted := true })

/-- PREFIX CB (CB; R656). -/
def execPrefixCb (cb : Byte) (s : State) : Result :=
  match (fieldX cb).toNat with
  | 0 => rotR8 (RotOp.ofField (fieldY cb)) (R8.ofField (fieldZ cb)) s
  | 1 => testBit (fieldY cb).toFin (R8.ofField (fieldZ cb)) s
  | 2 => resBit (fieldY cb).toFin (R8.ofField (fieldZ cb)) s
  | _ => setBitR8 (fieldY cb).toFin (R8.ofField (fieldZ cb)) s

/-- The undefined opcode (D3; R655). -/
def execUndefinedD3 (s : State) : Result := undefinedOp 0xD3 s

/-- The undefined opcode (DB; R655). -/
def execUndefinedDB (s : State) : Result := undefinedOp 0xDB s

/-- The undefined opcode (DD; R655). -/
def execUndefinedDD (s : State) : Result := undefinedOp 0xDD s

/-- The undefined opcode (E3; R655). -/
def execUndefinedE3 (s : State) : Result := undefinedOp 0xE3 s

/-- The undefined opcode (E4; R655). -/
def execUndefinedE4 (s : State) : Result := undefinedOp 0xE4 s

/-- The undefined opcode (EB; R655). -/
def execUndefinedEB (s : State) : Result := undefinedOp 0xEB s

/-- The undefined opcode (EC; R655). -/
def execUndefinedEC (s : State) : Result := undefinedOp 0xEC s

/-- The undefined opcode (ED; R655). -/
def execUndefinedED (s : State) : Result := undefinedOp 0xED s

/-- DI (F3; R653). -/
def execDi (s : State) : Result := .next (retire 1 4 { s with irq := { s.irq with imeRequest := some false } })

/-- The undefined opcode (F4; R655). -/
def execUndefinedF4 (s : State) : Result := undefinedOp 0xF4 s

/-- EI (FB; R654). -/
def execEi (s : State) : Result := .next (retire 1 4 { s with irq := { s.irq with imeRequest := some true } })

/-- The undefined opcode (FC; R655). -/
def execUndefinedFC (s : State) : Result := undefinedOp 0xFC s

/-- The undefined opcode (FD; R655). -/
def execUndefinedFD (s : State) : Result := undefinedOp 0xFD s

end Sys2Proof.Machine
end

