-- ==== Sys2Proof/Machine/Dispatch.lean ====
section
/-! DEFINITION. The instructions' meanings, one arm per constructor of `Instr`. -/

namespace Sys2Proof.Machine

def exec (i : Instr) (s : State) : Host.Outcome State Fault Refusal :=
  match i with
  | .nop => Sys2Proof.Machine.execNop s
  | .ldBC_N16 nn => Sys2Proof.Machine.execLdBC_N16 nn s
  | .ldIndBC_A => Sys2Proof.Machine.execLdIndBC_A s
  | .incBC => Sys2Proof.Machine.execIncBC s
  | .incB => Sys2Proof.Machine.execIncB s
  | .decB => Sys2Proof.Machine.execDecB s
  | .ldB_N8 n => Sys2Proof.Machine.execLdB_N8 n s
  | .rlca => Sys2Proof.Machine.execRlca s
  | .ldIndA16_SP aa => Sys2Proof.Machine.execLdIndA16_SP aa s
  | .addHL_BC => Sys2Proof.Machine.execAddHL_BC s
  | .ldA_IndBC => Sys2Proof.Machine.execLdA_IndBC s
  | .decBC => Sys2Proof.Machine.execDecBC s
  | .incC => Sys2Proof.Machine.execIncC s
  | .decC => Sys2Proof.Machine.execDecC s
  | .ldC_N8 n => Sys2Proof.Machine.execLdC_N8 n s
  | .rrca => Sys2Proof.Machine.execRrca s
  | .stop => Sys2Proof.Machine.execStop s
  | .ldDE_N16 nn => Sys2Proof.Machine.execLdDE_N16 nn s
  | .ldIndDE_A => Sys2Proof.Machine.execLdIndDE_A s
  | .incDE => Sys2Proof.Machine.execIncDE s
  | .incD => Sys2Proof.Machine.execIncD s
  | .decD => Sys2Proof.Machine.execDecD s
  | .ldD_N8 n => Sys2Proof.Machine.execLdD_N8 n s
  | .rla => Sys2Proof.Machine.execRla s
  | .jrE8 e => Sys2Proof.Machine.execJrE8 e s
  | .addHL_DE => Sys2Proof.Machine.execAddHL_DE s
  | .ldA_IndDE => Sys2Proof.Machine.execLdA_IndDE s
  | .decDE => Sys2Proof.Machine.execDecDE s
  | .incE => Sys2Proof.Machine.execIncE s
  | .decE => Sys2Proof.Machine.execDecE s
  | .ldE_N8 n => Sys2Proof.Machine.execLdE_N8 n s
  | .rra => Sys2Proof.Machine.execRra s
  | .jrNZ_E8 e => Sys2Proof.Machine.execJrNZ_E8 e s
  | .ldHL_N16 nn => Sys2Proof.Machine.execLdHL_N16 nn s
  | .ldIndHLInc_A => Sys2Proof.Machine.execLdIndHLInc_A s
  | .incHL => Sys2Proof.Machine.execIncHL s
  | .incH => Sys2Proof.Machine.execIncH s
  | .decH => Sys2Proof.Machine.execDecH s
  | .ldH_N8 n => Sys2Proof.Machine.execLdH_N8 n s
  | .daa => Sys2Proof.Machine.execDaa s
  | .jrZ_E8 e => Sys2Proof.Machine.execJrZ_E8 e s
  | .addHL_HL => Sys2Proof.Machine.execAddHL_HL s
  | .ldA_IndHLInc => Sys2Proof.Machine.execLdA_IndHLInc s
  | .decHL => Sys2Proof.Machine.execDecHL s
  | .incL => Sys2Proof.Machine.execIncL s
  | .decL => Sys2Proof.Machine.execDecL s
  | .ldL_N8 n => Sys2Proof.Machine.execLdL_N8 n s
  | .cpl => Sys2Proof.Machine.execCpl s
  | .jrNC_E8 e => Sys2Proof.Machine.execJrNC_E8 e s
  | .ldSP_N16 nn => Sys2Proof.Machine.execLdSP_N16 nn s
  | .ldIndHLDec_A => Sys2Proof.Machine.execLdIndHLDec_A s
  | .incSP => Sys2Proof.Machine.execIncSP s
  | .incIndHL => Sys2Proof.Machine.execIncIndHL s
  | .decIndHL => Sys2Proof.Machine.execDecIndHL s
  | .ldIndHL_N8 n => Sys2Proof.Machine.execLdIndHL_N8 n s
  | .scf => Sys2Proof.Machine.execScf s
  | .jrC_E8 e => Sys2Proof.Machine.execJrC_E8 e s
  | .addHL_SP => Sys2Proof.Machine.execAddHL_SP s
  | .ldA_IndHLDec => Sys2Proof.Machine.execLdA_IndHLDec s
  | .decSP => Sys2Proof.Machine.execDecSP s
  | .incA => Sys2Proof.Machine.execIncA s
  | .decA => Sys2Proof.Machine.execDecA s
  | .ldA_N8 n => Sys2Proof.Machine.execLdA_N8 n s
  | .ccf => Sys2Proof.Machine.execCcf s
  | .ldB_B => Sys2Proof.Machine.execLdB_B s
  | .ldB_C => Sys2Proof.Machine.execLdB_C s
  | .ldB_D => Sys2Proof.Machine.execLdB_D s
  | .ldB_E => Sys2Proof.Machine.execLdB_E s
  | .ldB_H => Sys2Proof.Machine.execLdB_H s
  | .ldB_L => Sys2Proof.Machine.execLdB_L s
  | .ldB_IndHL => Sys2Proof.Machine.execLdB_IndHL s
  | .ldB_A => Sys2Proof.Machine.execLdB_A s
  | .ldC_B => Sys2Proof.Machine.execLdC_B s
  | .ldC_C => Sys2Proof.Machine.execLdC_C s
  | .ldC_D => Sys2Proof.Machine.execLdC_D s
  | .ldC_E => Sys2Proof.Machine.execLdC_E s
  | .ldC_H => Sys2Proof.Machine.execLdC_H s
  | .ldC_L => Sys2Proof.Machine.execLdC_L s
  | .ldC_IndHL => Sys2Proof.Machine.execLdC_IndHL s
  | .ldC_A => Sys2Proof.Machine.execLdC_A s
  | .ldD_B => Sys2Proof.Machine.execLdD_B s
  | .ldD_C => Sys2Proof.Machine.execLdD_C s
  | .ldD_D => Sys2Proof.Machine.execLdD_D s
  | .ldD_E => Sys2Proof.Machine.execLdD_E s
  | .ldD_H => Sys2Proof.Machine.execLdD_H s
  | .ldD_L => Sys2Proof.Machine.execLdD_L s
  | .ldD_IndHL => Sys2Proof.Machine.execLdD_IndHL s
  | .ldD_A => Sys2Proof.Machine.execLdD_A s
  | .ldE_B => Sys2Proof.Machine.execLdE_B s
  | .ldE_C => Sys2Proof.Machine.execLdE_C s
  | .ldE_D => Sys2Proof.Machine.execLdE_D s
  | .ldE_E => Sys2Proof.Machine.execLdE_E s
  | .ldE_H => Sys2Proof.Machine.execLdE_H s
  | .ldE_L => Sys2Proof.Machine.execLdE_L s
  | .ldE_IndHL => Sys2Proof.Machine.execLdE_IndHL s
  | .ldE_A => Sys2Proof.Machine.execLdE_A s
  | .ldH_B => Sys2Proof.Machine.execLdH_B s
  | .ldH_C => Sys2Proof.Machine.execLdH_C s
  | .ldH_D => Sys2Proof.Machine.execLdH_D s
  | .ldH_E => Sys2Proof.Machine.execLdH_E s
  | .ldH_H => Sys2Proof.Machine.execLdH_H s
  | .ldH_L => Sys2Proof.Machine.execLdH_L s
  | .ldH_IndHL => Sys2Proof.Machine.execLdH_IndHL s
  | .ldH_A => Sys2Proof.Machine.execLdH_A s
  | .ldL_B => Sys2Proof.Machine.execLdL_B s
  | .ldL_C => Sys2Proof.Machine.execLdL_C s
  | .ldL_D => Sys2Proof.Machine.execLdL_D s
  | .ldL_E => Sys2Proof.Machine.execLdL_E s
  | .ldL_H => Sys2Proof.Machine.execLdL_H s
  | .ldL_L => Sys2Proof.Machine.execLdL_L s
  | .ldL_IndHL => Sys2Proof.Machine.execLdL_IndHL s
  | .ldL_A => Sys2Proof.Machine.execLdL_A s
  | .ldIndHL_B => Sys2Proof.Machine.execLdIndHL_B s
  | .ldIndHL_C => Sys2Proof.Machine.execLdIndHL_C s
  | .ldIndHL_D => Sys2Proof.Machine.execLdIndHL_D s
  | .ldIndHL_E => Sys2Proof.Machine.execLdIndHL_E s
  | .ldIndHL_H => Sys2Proof.Machine.execLdIndHL_H s
  | .ldIndHL_L => Sys2Proof.Machine.execLdIndHL_L s
  | .halt => Sys2Proof.Machine.execHalt s
  | .ldIndHL_A => Sys2Proof.Machine.execLdIndHL_A s
  | .ldA_B => Sys2Proof.Machine.execLdA_B s
  | .ldA_C => Sys2Proof.Machine.execLdA_C s
  | .ldA_D => Sys2Proof.Machine.execLdA_D s
  | .ldA_E => Sys2Proof.Machine.execLdA_E s
  | .ldA_H => Sys2Proof.Machine.execLdA_H s
  | .ldA_L => Sys2Proof.Machine.execLdA_L s
  | .ldA_IndHL => Sys2Proof.Machine.execLdA_IndHL s
  | .ldA_A => Sys2Proof.Machine.execLdA_A s
  | .addA_B => Sys2Proof.Machine.execAddA_B s
  | .addA_C => Sys2Proof.Machine.execAddA_C s
  | .addA_D => Sys2Proof.Machine.execAddA_D s
  | .addA_E => Sys2Proof.Machine.execAddA_E s
  | .addA_H => Sys2Proof.Machine.execAddA_H s
  | .addA_L => Sys2Proof.Machine.execAddA_L s
  | .addA_IndHL => Sys2Proof.Machine.execAddA_IndHL s
  | .addA_A => Sys2Proof.Machine.execAddA_A s
  | .adcA_B => Sys2Proof.Machine.execAdcA_B s
  | .adcA_C => Sys2Proof.Machine.execAdcA_C s
  | .adcA_D => Sys2Proof.Machine.execAdcA_D s
  | .adcA_E => Sys2Proof.Machine.execAdcA_E s
  | .adcA_H => Sys2Proof.Machine.execAdcA_H s
  | .adcA_L => Sys2Proof.Machine.execAdcA_L s
  | .adcA_IndHL => Sys2Proof.Machine.execAdcA_IndHL s
  | .adcA_A => Sys2Proof.Machine.execAdcA_A s
  | .subA_B => Sys2Proof.Machine.execSubA_B s
  | .subA_C => Sys2Proof.Machine.execSubA_C s
  | .subA_D => Sys2Proof.Machine.execSubA_D s
  | .subA_E => Sys2Proof.Machine.execSubA_E s
  | .subA_H => Sys2Proof.Machine.execSubA_H s
  | .subA_L => Sys2Proof.Machine.execSubA_L s
  | .subA_IndHL => Sys2Proof.Machine.execSubA_IndHL s
  | .subA_A => Sys2Proof.Machine.execSubA_A s
  | .sbcA_B => Sys2Proof.Machine.execSbcA_B s
  | .sbcA_C => Sys2Proof.Machine.execSbcA_C s
  | .sbcA_D => Sys2Proof.Machine.execSbcA_D s
  | .sbcA_E => Sys2Proof.Machine.execSbcA_E s
  | .sbcA_H => Sys2Proof.Machine.execSbcA_H s
  | .sbcA_L => Sys2Proof.Machine.execSbcA_L s
  | .sbcA_IndHL => Sys2Proof.Machine.execSbcA_IndHL s
  | .sbcA_A => Sys2Proof.Machine.execSbcA_A s
  | .andA_B => Sys2Proof.Machine.execAndA_B s
  | .andA_C => Sys2Proof.Machine.execAndA_C s
  | .andA_D => Sys2Proof.Machine.execAndA_D s
  | .andA_E => Sys2Proof.Machine.execAndA_E s
  | .andA_H => Sys2Proof.Machine.execAndA_H s
  | .andA_L => Sys2Proof.Machine.execAndA_L s
  | .andA_IndHL => Sys2Proof.Machine.execAndA_IndHL s
  | .andA_A => Sys2Proof.Machine.execAndA_A s
  | .xorA_B => Sys2Proof.Machine.execXorA_B s
  | .xorA_C => Sys2Proof.Machine.execXorA_C s
  | .xorA_D => Sys2Proof.Machine.execXorA_D s
  | .xorA_E => Sys2Proof.Machine.execXorA_E s
  | .xorA_H => Sys2Proof.Machine.execXorA_H s
  | .xorA_L => Sys2Proof.Machine.execXorA_L s
  | .xorA_IndHL => Sys2Proof.Machine.execXorA_IndHL s
  | .xorA_A => Sys2Proof.Machine.execXorA_A s
  | .orA_B => Sys2Proof.Machine.execOrA_B s
  | .orA_C => Sys2Proof.Machine.execOrA_C s
  | .orA_D => Sys2Proof.Machine.execOrA_D s
  | .orA_E => Sys2Proof.Machine.execOrA_E s
  | .orA_H => Sys2Proof.Machine.execOrA_H s
  | .orA_L => Sys2Proof.Machine.execOrA_L s
  | .orA_IndHL => Sys2Proof.Machine.execOrA_IndHL s
  | .orA_A => Sys2Proof.Machine.execOrA_A s
  | .cpA_B => Sys2Proof.Machine.execCpA_B s
  | .cpA_C => Sys2Proof.Machine.execCpA_C s
  | .cpA_D => Sys2Proof.Machine.execCpA_D s
  | .cpA_E => Sys2Proof.Machine.execCpA_E s
  | .cpA_H => Sys2Proof.Machine.execCpA_H s
  | .cpA_L => Sys2Proof.Machine.execCpA_L s
  | .cpA_IndHL => Sys2Proof.Machine.execCpA_IndHL s
  | .cpA_A => Sys2Proof.Machine.execCpA_A s
  | .retNZ => Sys2Proof.Machine.execRetNZ s
  | .popBC => Sys2Proof.Machine.execPopBC s
  | .jpNZ_A16 aa => Sys2Proof.Machine.execJpNZ_A16 aa s
  | .jpA16 aa => Sys2Proof.Machine.execJpA16 aa s
  | .callNZ_A16 aa => Sys2Proof.Machine.execCallNZ_A16 aa s
  | .pushBC => Sys2Proof.Machine.execPushBC s
  | .addA_N8 n => Sys2Proof.Machine.execAddA_N8 n s
  | .rst00 => Sys2Proof.Machine.execRst00 s
  | .retZ => Sys2Proof.Machine.execRetZ s
  | .ret => Sys2Proof.Machine.execRet s
  | .jpZ_A16 aa => Sys2Proof.Machine.execJpZ_A16 aa s
  | .prefixCb cb => Sys2Proof.Machine.execPrefixCb cb s
  | .callZ_A16 aa => Sys2Proof.Machine.execCallZ_A16 aa s
  | .callA16 aa => Sys2Proof.Machine.execCallA16 aa s
  | .adcA_N8 n => Sys2Proof.Machine.execAdcA_N8 n s
  | .rst08 => Sys2Proof.Machine.execRst08 s
  | .retNC => Sys2Proof.Machine.execRetNC s
  | .popDE => Sys2Proof.Machine.execPopDE s
  | .jpNC_A16 aa => Sys2Proof.Machine.execJpNC_A16 aa s
  | .undefinedD3 => Sys2Proof.Machine.execUndefinedD3 s
  | .callNC_A16 aa => Sys2Proof.Machine.execCallNC_A16 aa s
  | .pushDE => Sys2Proof.Machine.execPushDE s
  | .subA_N8 n => Sys2Proof.Machine.execSubA_N8 n s
  | .rst10 => Sys2Proof.Machine.execRst10 s
  | .retC => Sys2Proof.Machine.execRetC s
  | .reti => Sys2Proof.Machine.execReti s
  | .jpC_A16 aa => Sys2Proof.Machine.execJpC_A16 aa s
  | .undefinedDB => Sys2Proof.Machine.execUndefinedDB s
  | .callC_A16 aa => Sys2Proof.Machine.execCallC_A16 aa s
  | .undefinedDD => Sys2Proof.Machine.execUndefinedDD s
  | .sbcA_N8 n => Sys2Proof.Machine.execSbcA_N8 n s
  | .rst18 => Sys2Proof.Machine.execRst18 s
  | .ldhIndA8_A a => Sys2Proof.Machine.execLdhIndA8_A a s
  | .popHL => Sys2Proof.Machine.execPopHL s
  | .ldIndC_A => Sys2Proof.Machine.execLdIndC_A s
  | .undefinedE3 => Sys2Proof.Machine.execUndefinedE3 s
  | .undefinedE4 => Sys2Proof.Machine.execUndefinedE4 s
  | .pushHL => Sys2Proof.Machine.execPushHL s
  | .andA_N8 n => Sys2Proof.Machine.execAndA_N8 n s
  | .rst20 => Sys2Proof.Machine.execRst20 s
  | .addSP_E8 e => Sys2Proof.Machine.execAddSP_E8 e s
  | .jpHL => Sys2Proof.Machine.execJpHL s
  | .ldIndA16_A aa => Sys2Proof.Machine.execLdIndA16_A aa s
  | .undefinedEB => Sys2Proof.Machine.execUndefinedEB s
  | .undefinedEC => Sys2Proof.Machine.execUndefinedEC s
  | .undefinedED => Sys2Proof.Machine.execUndefinedED s
  | .xorA_N8 n => Sys2Proof.Machine.execXorA_N8 n s
  | .rst28 => Sys2Proof.Machine.execRst28 s
  | .ldhA_IndA8 a => Sys2Proof.Machine.execLdhA_IndA8 a s
  | .popAF => Sys2Proof.Machine.execPopAF s
  | .ldA_IndC => Sys2Proof.Machine.execLdA_IndC s
  | .di => Sys2Proof.Machine.execDi s
  | .undefinedF4 => Sys2Proof.Machine.execUndefinedF4 s
  | .pushAF => Sys2Proof.Machine.execPushAF s
  | .orA_N8 n => Sys2Proof.Machine.execOrA_N8 n s
  | .rst30 => Sys2Proof.Machine.execRst30 s
  | .ldHL_SPE8 e => Sys2Proof.Machine.execLdHL_SPE8 e s
  | .ldSP_HL => Sys2Proof.Machine.execLdSP_HL s
  | .ldA_IndA16 aa => Sys2Proof.Machine.execLdA_IndA16 aa s
  | .ei => Sys2Proof.Machine.execEi s
  | .undefinedFC => Sys2Proof.Machine.execUndefinedFC s
  | .undefinedFD => Sys2Proof.Machine.execUndefinedFD s
  | .cpA_N8 n => Sys2Proof.Machine.execCpA_N8 n s
  | .rst38 => Sys2Proof.Machine.execRst38 s
  | .rlcB => Sys2Proof.Machine.execRlcB s
  | .rlcC => Sys2Proof.Machine.execRlcC s
  | .rlcD => Sys2Proof.Machine.execRlcD s
  | .rlcE => Sys2Proof.Machine.execRlcE s
  | .rlcH => Sys2Proof.Machine.execRlcH s
  | .rlcL => Sys2Proof.Machine.execRlcL s
  | .rlcIndHL => Sys2Proof.Machine.execRlcIndHL s
  | .rlcA => Sys2Proof.Machine.execRlcA s
  | .rrcB => Sys2Proof.Machine.execRrcB s
  | .rrcC => Sys2Proof.Machine.execRrcC s
  | .rrcD => Sys2Proof.Machine.execRrcD s
  | .rrcE => Sys2Proof.Machine.execRrcE s
  | .rrcH => Sys2Proof.Machine.execRrcH s
  | .rrcL => Sys2Proof.Machine.execRrcL s
  | .rrcIndHL => Sys2Proof.Machine.execRrcIndHL s
  | .rrcA => Sys2Proof.Machine.execRrcA s
  | .rlB => Sys2Proof.Machine.execRlB s
  | .rlC => Sys2Proof.Machine.execRlC s
  | .rlD => Sys2Proof.Machine.execRlD s
  | .rlE => Sys2Proof.Machine.execRlE s
  | .rlH => Sys2Proof.Machine.execRlH s
  | .rlL => Sys2Proof.Machine.execRlL s
  | .rlIndHL => Sys2Proof.Machine.execRlIndHL s
  | .rlA => Sys2Proof.Machine.execRlA s
  | .rrB => Sys2Proof.Machine.execRrB s
  | .rrC => Sys2Proof.Machine.execRrC s
  | .rrD => Sys2Proof.Machine.execRrD s
  | .rrE => Sys2Proof.Machine.execRrE s
  | .rrH => Sys2Proof.Machine.execRrH s
  | .rrL => Sys2Proof.Machine.execRrL s
  | .rrIndHL => Sys2Proof.Machine.execRrIndHL s
  | .rrA => Sys2Proof.Machine.execRrA s
  | .slaB => Sys2Proof.Machine.execSlaB s
  | .slaC => Sys2Proof.Machine.execSlaC s
  | .slaD => Sys2Proof.Machine.execSlaD s
  | .slaE => Sys2Proof.Machine.execSlaE s
  | .slaH => Sys2Proof.Machine.execSlaH s
  | .slaL => Sys2Proof.Machine.execSlaL s
  | .slaIndHL => Sys2Proof.Machine.execSlaIndHL s
  | .slaA => Sys2Proof.Machine.execSlaA s
  | .sraB => Sys2Proof.Machine.execSraB s
  | .sraC => Sys2Proof.Machine.execSraC s
  | .sraD => Sys2Proof.Machine.execSraD s
  | .sraE => Sys2Proof.Machine.execSraE s
  | .sraH => Sys2Proof.Machine.execSraH s
  | .sraL => Sys2Proof.Machine.execSraL s
  | .sraIndHL => Sys2Proof.Machine.execSraIndHL s
  | .sraA => Sys2Proof.Machine.execSraA s
  | .swapB => Sys2Proof.Machine.execSwapB s
  | .swapC => Sys2Proof.Machine.execSwapC s
  | .swapD => Sys2Proof.Machine.execSwapD s
  | .swapE => Sys2Proof.Machine.execSwapE s
  | .swapH => Sys2Proof.Machine.execSwapH s
  | .swapL => Sys2Proof.Machine.execSwapL s
  | .swapIndHL => Sys2Proof.Machine.execSwapIndHL s
  | .swapA => Sys2Proof.Machine.execSwapA s
  | .srlB => Sys2Proof.Machine.execSrlB s
  | .srlC => Sys2Proof.Machine.execSrlC s
  | .srlD => Sys2Proof.Machine.execSrlD s
  | .srlE => Sys2Proof.Machine.execSrlE s
  | .srlH => Sys2Proof.Machine.execSrlH s
  | .srlL => Sys2Proof.Machine.execSrlL s
  | .srlIndHL => Sys2Proof.Machine.execSrlIndHL s
  | .srlA => Sys2Proof.Machine.execSrlA s
  | .bit0_B => Sys2Proof.Machine.execBit0_B s
  | .bit0_C => Sys2Proof.Machine.execBit0_C s
  | .bit0_D => Sys2Proof.Machine.execBit0_D s
  | .bit0_E => Sys2Proof.Machine.execBit0_E s
  | .bit0_H => Sys2Proof.Machine.execBit0_H s
  | .bit0_L => Sys2Proof.Machine.execBit0_L s
  | .bit0_IndHL => Sys2Proof.Machine.execBit0_IndHL s
  | .bit0_A => Sys2Proof.Machine.execBit0_A s
  | .bit1_B => Sys2Proof.Machine.execBit1_B s
  | .bit1_C => Sys2Proof.Machine.execBit1_C s
  | .bit1_D => Sys2Proof.Machine.execBit1_D s
  | .bit1_E => Sys2Proof.Machine.execBit1_E s
  | .bit1_H => Sys2Proof.Machine.execBit1_H s
  | .bit1_L => Sys2Proof.Machine.execBit1_L s
  | .bit1_IndHL => Sys2Proof.Machine.execBit1_IndHL s
  | .bit1_A => Sys2Proof.Machine.execBit1_A s
  | .bit2_B => Sys2Proof.Machine.execBit2_B s
  | .bit2_C => Sys2Proof.Machine.execBit2_C s
  | .bit2_D => Sys2Proof.Machine.execBit2_D s
  | .bit2_E => Sys2Proof.Machine.execBit2_E s
  | .bit2_H => Sys2Proof.Machine.execBit2_H s
  | .bit2_L => Sys2Proof.Machine.execBit2_L s
  | .bit2_IndHL => Sys2Proof.Machine.execBit2_IndHL s
  | .bit2_A => Sys2Proof.Machine.execBit2_A s
  | .bit3_B => Sys2Proof.Machine.execBit3_B s
  | .bit3_C => Sys2Proof.Machine.execBit3_C s
  | .bit3_D => Sys2Proof.Machine.execBit3_D s
  | .bit3_E => Sys2Proof.Machine.execBit3_E s
  | .bit3_H => Sys2Proof.Machine.execBit3_H s
  | .bit3_L => Sys2Proof.Machine.execBit3_L s
  | .bit3_IndHL => Sys2Proof.Machine.execBit3_IndHL s
  | .bit3_A => Sys2Proof.Machine.execBit3_A s
  | .bit4_B => Sys2Proof.Machine.execBit4_B s
  | .bit4_C => Sys2Proof.Machine.execBit4_C s
  | .bit4_D => Sys2Proof.Machine.execBit4_D s
  | .bit4_E => Sys2Proof.Machine.execBit4_E s
  | .bit4_H => Sys2Proof.Machine.execBit4_H s
  | .bit4_L => Sys2Proof.Machine.execBit4_L s
  | .bit4_IndHL => Sys2Proof.Machine.execBit4_IndHL s
  | .bit4_A => Sys2Proof.Machine.execBit4_A s
  | .bit5_B => Sys2Proof.Machine.execBit5_B s
  | .bit5_C => Sys2Proof.Machine.execBit5_C s
  | .bit5_D => Sys2Proof.Machine.execBit5_D s
  | .bit5_E => Sys2Proof.Machine.execBit5_E s
  | .bit5_H => Sys2Proof.Machine.execBit5_H s
  | .bit5_L => Sys2Proof.Machine.execBit5_L s
  | .bit5_IndHL => Sys2Proof.Machine.execBit5_IndHL s
  | .bit5_A => Sys2Proof.Machine.execBit5_A s
  | .bit6_B => Sys2Proof.Machine.execBit6_B s
  | .bit6_C => Sys2Proof.Machine.execBit6_C s
  | .bit6_D => Sys2Proof.Machine.execBit6_D s
  | .bit6_E => Sys2Proof.Machine.execBit6_E s
  | .bit6_H => Sys2Proof.Machine.execBit6_H s
  | .bit6_L => Sys2Proof.Machine.execBit6_L s
  | .bit6_IndHL => Sys2Proof.Machine.execBit6_IndHL s
  | .bit6_A => Sys2Proof.Machine.execBit6_A s
  | .bit7_B => Sys2Proof.Machine.execBit7_B s
  | .bit7_C => Sys2Proof.Machine.execBit7_C s
  | .bit7_D => Sys2Proof.Machine.execBit7_D s
  | .bit7_E => Sys2Proof.Machine.execBit7_E s
  | .bit7_H => Sys2Proof.Machine.execBit7_H s
  | .bit7_L => Sys2Proof.Machine.execBit7_L s
  | .bit7_IndHL => Sys2Proof.Machine.execBit7_IndHL s
  | .bit7_A => Sys2Proof.Machine.execBit7_A s
  | .res0_B => Sys2Proof.Machine.execRes0_B s
  | .res0_C => Sys2Proof.Machine.execRes0_C s
  | .res0_D => Sys2Proof.Machine.execRes0_D s
  | .res0_E => Sys2Proof.Machine.execRes0_E s
  | .res0_H => Sys2Proof.Machine.execRes0_H s
  | .res0_L => Sys2Proof.Machine.execRes0_L s
  | .res0_IndHL => Sys2Proof.Machine.execRes0_IndHL s
  | .res0_A => Sys2Proof.Machine.execRes0_A s
  | .res1_B => Sys2Proof.Machine.execRes1_B s
  | .res1_C => Sys2Proof.Machine.execRes1_C s
  | .res1_D => Sys2Proof.Machine.execRes1_D s
  | .res1_E => Sys2Proof.Machine.execRes1_E s
  | .res1_H => Sys2Proof.Machine.execRes1_H s
  | .res1_L => Sys2Proof.Machine.execRes1_L s
  | .res1_IndHL => Sys2Proof.Machine.execRes1_IndHL s
  | .res1_A => Sys2Proof.Machine.execRes1_A s
  | .res2_B => Sys2Proof.Machine.execRes2_B s
  | .res2_C => Sys2Proof.Machine.execRes2_C s
  | .res2_D => Sys2Proof.Machine.execRes2_D s
  | .res2_E => Sys2Proof.Machine.execRes2_E s
  | .res2_H => Sys2Proof.Machine.execRes2_H s
  | .res2_L => Sys2Proof.Machine.execRes2_L s
  | .res2_IndHL => Sys2Proof.Machine.execRes2_IndHL s
  | .res2_A => Sys2Proof.Machine.execRes2_A s
  | .res3_B => Sys2Proof.Machine.execRes3_B s
  | .res3_C => Sys2Proof.Machine.execRes3_C s
  | .res3_D => Sys2Proof.Machine.execRes3_D s
  | .res3_E => Sys2Proof.Machine.execRes3_E s
  | .res3_H => Sys2Proof.Machine.execRes3_H s
  | .res3_L => Sys2Proof.Machine.execRes3_L s
  | .res3_IndHL => Sys2Proof.Machine.execRes3_IndHL s
  | .res3_A => Sys2Proof.Machine.execRes3_A s
  | .res4_B => Sys2Proof.Machine.execRes4_B s
  | .res4_C => Sys2Proof.Machine.execRes4_C s
  | .res4_D => Sys2Proof.Machine.execRes4_D s
  | .res4_E => Sys2Proof.Machine.execRes4_E s
  | .res4_H => Sys2Proof.Machine.execRes4_H s
  | .res4_L => Sys2Proof.Machine.execRes4_L s
  | .res4_IndHL => Sys2Proof.Machine.execRes4_IndHL s
  | .res4_A => Sys2Proof.Machine.execRes4_A s
  | .res5_B => Sys2Proof.Machine.execRes5_B s
  | .res5_C => Sys2Proof.Machine.execRes5_C s
  | .res5_D => Sys2Proof.Machine.execRes5_D s
  | .res5_E => Sys2Proof.Machine.execRes5_E s
  | .res5_H => Sys2Proof.Machine.execRes5_H s
  | .res5_L => Sys2Proof.Machine.execRes5_L s
  | .res5_IndHL => Sys2Proof.Machine.execRes5_IndHL s
  | .res5_A => Sys2Proof.Machine.execRes5_A s
  | .res6_B => Sys2Proof.Machine.execRes6_B s
  | .res6_C => Sys2Proof.Machine.execRes6_C s
  | .res6_D => Sys2Proof.Machine.execRes6_D s
  | .res6_E => Sys2Proof.Machine.execRes6_E s
  | .res6_H => Sys2Proof.Machine.execRes6_H s
  | .res6_L => Sys2Proof.Machine.execRes6_L s
  | .res6_IndHL => Sys2Proof.Machine.execRes6_IndHL s
  | .res6_A => Sys2Proof.Machine.execRes6_A s
  | .res7_B => Sys2Proof.Machine.execRes7_B s
  | .res7_C => Sys2Proof.Machine.execRes7_C s
  | .res7_D => Sys2Proof.Machine.execRes7_D s
  | .res7_E => Sys2Proof.Machine.execRes7_E s
  | .res7_H => Sys2Proof.Machine.execRes7_H s
  | .res7_L => Sys2Proof.Machine.execRes7_L s
  | .res7_IndHL => Sys2Proof.Machine.execRes7_IndHL s
  | .res7_A => Sys2Proof.Machine.execRes7_A s
  | .set0_B => Sys2Proof.Machine.execSet0_B s
  | .set0_C => Sys2Proof.Machine.execSet0_C s
  | .set0_D => Sys2Proof.Machine.execSet0_D s
  | .set0_E => Sys2Proof.Machine.execSet0_E s
  | .set0_H => Sys2Proof.Machine.execSet0_H s
  | .set0_L => Sys2Proof.Machine.execSet0_L s
  | .set0_IndHL => Sys2Proof.Machine.execSet0_IndHL s
  | .set0_A => Sys2Proof.Machine.execSet0_A s
  | .set1_B => Sys2Proof.Machine.execSet1_B s
  | .set1_C => Sys2Proof.Machine.execSet1_C s
  | .set1_D => Sys2Proof.Machine.execSet1_D s
  | .set1_E => Sys2Proof.Machine.execSet1_E s
  | .set1_H => Sys2Proof.Machine.execSet1_H s
  | .set1_L => Sys2Proof.Machine.execSet1_L s
  | .set1_IndHL => Sys2Proof.Machine.execSet1_IndHL s
  | .set1_A => Sys2Proof.Machine.execSet1_A s
  | .set2_B => Sys2Proof.Machine.execSet2_B s
  | .set2_C => Sys2Proof.Machine.execSet2_C s
  | .set2_D => Sys2Proof.Machine.execSet2_D s
  | .set2_E => Sys2Proof.Machine.execSet2_E s
  | .set2_H => Sys2Proof.Machine.execSet2_H s
  | .set2_L => Sys2Proof.Machine.execSet2_L s
  | .set2_IndHL => Sys2Proof.Machine.execSet2_IndHL s
  | .set2_A => Sys2Proof.Machine.execSet2_A s
  | .set3_B => Sys2Proof.Machine.execSet3_B s
  | .set3_C => Sys2Proof.Machine.execSet3_C s
  | .set3_D => Sys2Proof.Machine.execSet3_D s
  | .set3_E => Sys2Proof.Machine.execSet3_E s
  | .set3_H => Sys2Proof.Machine.execSet3_H s
  | .set3_L => Sys2Proof.Machine.execSet3_L s
  | .set3_IndHL => Sys2Proof.Machine.execSet3_IndHL s
  | .set3_A => Sys2Proof.Machine.execSet3_A s
  | .set4_B => Sys2Proof.Machine.execSet4_B s
  | .set4_C => Sys2Proof.Machine.execSet4_C s
  | .set4_D => Sys2Proof.Machine.execSet4_D s
  | .set4_E => Sys2Proof.Machine.execSet4_E s
  | .set4_H => Sys2Proof.Machine.execSet4_H s
  | .set4_L => Sys2Proof.Machine.execSet4_L s
  | .set4_IndHL => Sys2Proof.Machine.execSet4_IndHL s
  | .set4_A => Sys2Proof.Machine.execSet4_A s
  | .set5_B => Sys2Proof.Machine.execSet5_B s
  | .set5_C => Sys2Proof.Machine.execSet5_C s
  | .set5_D => Sys2Proof.Machine.execSet5_D s
  | .set5_E => Sys2Proof.Machine.execSet5_E s
  | .set5_H => Sys2Proof.Machine.execSet5_H s
  | .set5_L => Sys2Proof.Machine.execSet5_L s
  | .set5_IndHL => Sys2Proof.Machine.execSet5_IndHL s
  | .set5_A => Sys2Proof.Machine.execSet5_A s
  | .set6_B => Sys2Proof.Machine.execSet6_B s
  | .set6_C => Sys2Proof.Machine.execSet6_C s
  | .set6_D => Sys2Proof.Machine.execSet6_D s
  | .set6_E => Sys2Proof.Machine.execSet6_E s
  | .set6_H => Sys2Proof.Machine.execSet6_H s
  | .set6_L => Sys2Proof.Machine.execSet6_L s
  | .set6_IndHL => Sys2Proof.Machine.execSet6_IndHL s
  | .set6_A => Sys2Proof.Machine.execSet6_A s
  | .set7_B => Sys2Proof.Machine.execSet7_B s
  | .set7_C => Sys2Proof.Machine.execSet7_C s
  | .set7_D => Sys2Proof.Machine.execSet7_D s
  | .set7_E => Sys2Proof.Machine.execSet7_E s
  | .set7_H => Sys2Proof.Machine.execSet7_H s
  | .set7_L => Sys2Proof.Machine.execSet7_L s
  | .set7_IndHL => Sys2Proof.Machine.execSet7_IndHL s
  | .set7_A => Sys2Proof.Machine.execSet7_A s

end Sys2Proof.Machine
end

