-- ==== Sys2Proof/Machine/Step.lean ====
section
/-! DEFINITION. The step of the block (R700), the state a faulting step leaves (R760), and how the host places an instruction to run. -/

namespace Sys2Proof.Machine

/-- What a normal step does after its start: fetch, decode, execute and the delivery of the ticks (R311, R700 part 4). -/
def runInstr (s : State) : Result :=
  match decode s.cfg.stopLength (fetchInstr s).1 with
  | .error _ => .refused .undecodable
  | .ok (i, _) =>
    match exec i (fetchInstr s).2 with
    | .next t => .next (deliverTicks t)
    | .fault k => .fault k
    | .refused r => .refused r

/-- `Step` (R700). -/
def step (s : State) : Host.Outcome State Fault Refusal :=
  match s.fault with
  | some k => .fault k
  | none =>
    let s1 := beginStep s
    if interruptDue s1 then .next (deliverTicks (takeInterrupt s1))
    else if idleDue s1 then .next (deliverTicks (idleStep s1))
    else runInstr (wake s1)

/-- The state that a step answering the fault `k` leaves (R760): the fault recorded, the writes of the step's start and of its fetch
kept, PC not committed and no ticks delivered. From a state that holds a fault nothing changes (log 6). -/
def faultState (k : Fault) (s : State) : State :=
  match s.fault with
  | some _ => s
  | none => (fetchInstr (wake (beginStep s))).2.faulted k

/-! ### Placing an instruction for the next step (log 5) -/

/-- Whether the outside world can place a byte that a fetch at this address reads: core RAM, or a cartridge that is not a named device. -/
def placeable (s : State) (a : Word) : Bool :=
  match region s.bootOverlay a with
  | .cart => match s.cfg.cartridge with | .named _ => false | .unnamed | .flat _ => true
  | .vram | .wram | .echo | .oam | .hram => true
  | .boot | .unusable | .io | .ie => false

/-- Loads one byte from outside: into core RAM, or into the image of the flat cartridge. -/
def placeByte (a : Word) (v : Byte) (s : State) : State :=
  match region s.bootOverlay a with
  | .cart => { s with cart := { s.cart with image := s.cart.image.write a.toNat v } }
  | .echo => ramWrite (a.toNat - 0x2000) v s
  | _ => ramWrite a.toNat v s

/-- Names the flat provider, which holds the bytes loaded into the cartridge, where none is named. -/
def nameFlat (s : State) : State :=
  match s.cfg.cartridge with
  | .flat _ | .named _ => s
  | .unnamed => { s with cfg := { s.cfg with cartridge := .flat false } }

/-- The state whose next step is a normal step: no fault, not halted, and no interrupt due. -/
def readyToRun (s : State) : State :=
  let s1 := { s with fault := none, halted := false }
  if interruptDue (beginStep s1) then { s1 with irq := { s1.irq with ime := false, imeDelayed := none } } else s1

/-- The instruction of the table's numbering, placed at the address the next step fetches from: PC, or 0xC000 (with PC moved there) when
the bytes from PC are not all placeable. -/
def State.withFetchWord (s : State) (nbits w : Nat) : State :=
  let r := readyToRun s
  let ok := placeable r r.regs.pc && placeable r (r.regs.pc + 1) && placeable r (r.regs.pc + 2)
  let s1 := if ok then r else r.setPc 0xC000
  let s2 := if region s1.bootOverlay s1.regs.pc = .cart ∨ region s1.bootOverlay (s1.regs.pc + 2) = .cart then nameFlat s1 else s1
  let bytes := tableBytes nbits w
  placeByte (s2.regs.pc + 2) (bytes.getD 2 0) (placeByte (s2.regs.pc + 1) (bytes.getD 1 0) (placeByte s2.regs.pc (bytes.getD 0 0) s2))

end Sys2Proof.Machine
end

