-- ==== Sys2Proof/Safety.lean ====
section
/-! DEFINITION. The terms claims are stated in: which bytes are the core's own, which addresses a store reaches, the invariant of the
machine, and when no step can fault. -/

namespace Sys2Proof.Machine

/-- Whether a read of an address is the core's own, or of a byte that the flat cartridge is known to hold: answered by no event of a
collaborator (R223, R241). -/
def coreOwned (s : State) (a : Word) : Bool :=
  match region s.bootOverlay a with
  | .boot => s.cfg.bootRom.isSome || (cartKnown s a).isSome
  | .cart => (cartKnown s a).isSome
  | .io => decide (ioReg a ≠ .ext)
  | .vram | .wram | .echo | .oam | .unusable | .hram | .ie => true

/-- The address of the byte behind an address: the echo shows work RAM (R208). -/
def physical (a : Word) : Nat := if 0xE000 ≤ a.toNat ∧ a.toNat ≤ 0xFDFF then a.toNat - 0x2000 else a.toNat

/-- Whether a store of `v` at `a` may change what a read of the core-owned address `b` gives: the byte itself (R208), OAM when the store
starts the DMA copy (R220), and the overlay's addresses when it ends the overlay (R219). -/
def storeTouches (a : Word) (v : Byte) (b : Word) : Prop :=
  physical b = physical a
    ∨ (a = 0xFF46 ∧ v.toNat ≤ 0xF1 ∧ 0xFE00 ≤ b.toNat ∧ b.toNat ≤ 0xFE9F)
    ∨ (a = 0xFF50 ∧ v ≠ 0 ∧ b.toNat ≤ 0x00FF)

/-- A memory in canonical form that lists only addresses `ok` admits. -/
def Memory.within (fill : Option Byte) (ok : Nat → Bool) (m : Memory) : Bool := m.wf fill && m.all (fun cell => ok cell.1)

/-- The invariant of the machine: the stores and the cells of named devices are canonical, and the stores hold only addresses of their
own; the accumulators stay below their periods (R111, R775); the phase of the display is not over, and its mode fits its line (R112, R784,
R787); the overlay shows a boot program that exists (R203). -/
structure Inv (s : State) : Prop where
  mem : s.mem.within (ramFill s.cfg.ramInit) isStorage = true
  image : s.cart.image.within none isCartWindow = true
  cells : s.cart.cells.wf (some 0) = true
  ext : s.ext.cells.wf (some 0) = true
  divAcc : s.timer.divAcc < 256
  timaAcc : s.timer.timaAcc < timerDivisor s.timer.tac
  phase : s.disp.phaseTicks < s.disp.mode.duration
  line : s.disp.ly.toNat ≤ 153
  vblank : s.disp.mode = .vBlank ↔ 144 ≤ s.disp.ly.toNat
  overlay : s.bootOverlay = true → s.cfg.bootRom.isSome = true

/-- The parameter values under which no instruction faults (R467, R655, R760). -/
def Params.total (p : Params) : Prop := p.daaMissPolicy = .hardwareAlgorithm ∧ p.invalidOpcodePolicy = .nop

end Sys2Proof.Machine
end

