-- ==== Sys2Proof/Certificates/Slice0/Obligations.lean ====
section
/-! DEFINITION. The statements for the provers. The first part names, from the rules' own text and apart from the meanings, the operands,
flags and next states that the statements speak of; the second part is the statements, each with the rule it formalises. -/

namespace Sys2Proof.Claims

open Sys2Proof.Machine

/-! ### Operands, from the tables of R100 to R102 and R303 to R305 -/

/-- The place of an operand in the order of R304. -/
def index (r : R8) : Nat :=
  match r with
  | .b => 0 | .c => 1 | .d => 2 | .e => 3 | .h => 4 | .l => 5 | .hlInd => 6 | .a => 7

/-- The pair HL. -/
def hlOf (g : Regs) : Word := g.h ++ g.l

/-- A register operand; no claim uses its value at `(HL)`. -/
def regOf (r : R8) (g : Regs) : Byte :=
  match r with
  | .b => g.b | .c => g.c | .d => g.d | .e => g.e | .h => g.h | .l => g.l | .a => g.a
  | .hlInd => 0

/-- A register file with one register changed; `(HL)` is no register. -/
def withReg (r : R8) (v : Byte) (g : Regs) : Regs :=
  match r with
  | .b => { g with b := v } | .c => { g with c := v } | .d => { g with d := v } | .e => { g with e := v }
  | .h => { g with h := v } | .l => { g with l := v } | .a => { g with a := v }
  | .hlInd => g

/-- The place of a pair in the order of R305. -/
def pairIndex (p : R16) : Nat :=
  match p with
  | .bc => 0 | .de => 1 | .hl => 2 | .sp => 3

/-- A pair, or SP. -/
def pairOf (p : R16) (g : Regs) : Word :=
  match p with
  | .bc => g.b ++ g.c | .de => g.d ++ g.e | .hl => g.h ++ g.l | .sp => g.sp

/-- A register file with a pair, or SP, changed: the first-named register takes the high byte (R101). -/
def withPair (p : R16) (w : Word) (g : Regs) : Regs :=
  match p with
  | .bc => { g with b := w.extractLsb' 8 8, c := w.extractLsb' 0 8 }
  | .de => { g with d := w.extractLsb' 8 8, e := w.extractLsb' 0 8 }
  | .hl => { g with h := w.extractLsb' 8 8, l := w.extractLsb' 0 8 }
  | .sp => { g with sp := w }

/-- F in its byte form (R102). -/
def flagByte (f : Flags) : Byte :=
  (if f.z then 0x80 else 0) ||| (if f.n then 0x40 else 0) ||| (if f.h then 0x20 else 0) ||| (if f.c then 0x10 else 0)

/-- A pair of PUSH and POP. -/
def stackPairOf (q : R16P) (g : Regs) : Word :=
  match q with
  | .bc => g.b ++ g.c | .de => g.d ++ g.e | .hl => g.h ++ g.l | .af => g.a ++ flagByte g.flags

/-- A register file after POP of a word: for AF, bits 3:0 of the word are discarded (R421). -/
def withStackPair (q : R16P) (w : Word) (g : Regs) : Regs :=
  match q with
  | .bc => { g with b := w.extractLsb' 8 8, c := w.extractLsb' 0 8 }
  | .de => { g with d := w.extractLsb' 8 8, e := w.extractLsb' 0 8 }
  | .hl => { g with h := w.extractLsb' 8 8, l := w.extractLsb' 0 8 }
  | .af => { g with a := w.extractLsb' 8 8, flags := ⟨w.getLsbD 7, w.getLsbD 6, w.getLsbD 5, w.getLsbD 4⟩ }

/-- `cond(cc)` (R303, R600). -/
def holds (cc : Cond) (f : Flags) : Bool :=
  match cc with
  | .nz => !f.z | .z => f.z | .nc => !f.c | .c => f.c

/-- The cost of a conditional instruction under `COND_TICKS` (R313). -/
def charge (p : Params) (taken : Bool) (t n : Nat) : Nat :=
  match p.condTicks, taken with
  | .branchSensitive, true => t | .branchSensitive, false => n
  | .taken, _ => t | .notTaken, _ => n

/-! ### Next states: everything not named is unchanged -/

/-- The instruction of `len` bytes goes on to the one after it: registers `g`, the rest as in `s`. -/
def onward (len ticks : Nat) (g : Regs) (s : State) : State :=
  { s with regs := { g with pc := g.pc + BitVec.ofNat 16 len }, out := { s.out with ticks := ticks } }

/-- The instruction goes to `target`: registers `g`, the rest as in `s`. -/
def landing (target : Word) (ticks : Nat) (g : Regs) (s : State) : State :=
  { s with regs := { g with pc := target }, out := { s.out with ticks := ticks } }

/-- The byte at HL. -/
def atHl (s : State) : Byte := readVal (hlOf s.regs) s

/-- The state after the read of the byte at HL. -/
def readHl (s : State) : State := afterRead (hlOf s.regs) s

/-- The state after the read of the byte at HL and a store of `v` there. -/
def modifyHl (v : Byte) (s : State) : State := memWrite (hlOf s.regs) v (readHl s)

/-- The two stores of `Push16`: the high byte at SP-1 first (R18). -/
def pushed (w : Word) (s : State) : State :=
  memWrite (s.regs.sp - 2) (w.extractLsb' 0 8) (memWrite (s.regs.sp - 1) (w.extractLsb' 8 8) s)

/-- The word that `Pop16` gives: the low byte at SP is read first (R18). -/
def poppedWord (s : State) : Word := readVal (s.regs.sp + 1) (afterRead s.regs.sp s) ++ readVal s.regs.sp s

/-- The state after the two reads of `Pop16`. -/
def poppedState (s : State) : State := afterRead (s.regs.sp + 1) (afterRead s.regs.sp s)

/-- `i` loads A from an address. -/
def LoadsA (i : Instr) (len ticks : Nat) (addr : Regs → Word) : Prop :=
  ∀ s : State, exec i s
    = .next (onward len ticks { s.regs with a := readVal (addr s.regs) s } (afterRead (addr s.regs) s))

/-- `i` stores A at an address. -/
def StoresA (i : Instr) (len ticks : Nat) (addr : Regs → Word) : Prop :=
  ∀ s : State, exec i s = .next (onward len ticks s.regs (memWrite (addr s.regs) s.regs.a s))

/-! ### 8-bit arithmetic -/

/-- What an operation of the ALU block does to A and F (R454 to R461), by its primitive. -/
def aluEffect (op : AluOp) (v : Byte) (g : Regs) : Regs :=
  match op with
  | .add => { g with a := (add8 g.a v false).1, flags := (add8 g.a v false).2 }
  | .adc => { g with a := (add8 g.a v g.flags.c).1, flags := (add8 g.a v g.flags.c).2 }
  | .sub => { g with a := (sub8 g.a v false).1, flags := (sub8 g.a v false).2 }
  | .sbc => { g with a := (sub8 g.a v g.flags.c).1, flags := (sub8 g.a v g.flags.c).2 }
  | .and => { g with a := g.a &&& v, flags := ⟨g.a &&& v == 0, false, true, false⟩ }
  | .xor => { g with a := g.a ^^^ v, flags := ⟨g.a ^^^ v == 0, false, false, false⟩ }
  | .or => { g with a := g.a ||| v, flags := ⟨g.a ||| v == 0, false, false, false⟩ }
  | .cp => { g with flags := (sub8 g.a v false).2 }

/-- The flags of an 8-bit increment of `v` (R462). -/
def incFlags (v : Byte) (f : Flags) : Flags := ⟨v == 0xFF, false, v.extractLsb' 0 4 == 0xF, f.c⟩

/-- The flags of an 8-bit decrement of `v` (R464). -/
def decFlags (v : Byte) (f : Flags) : Flags := ⟨v == 0x01, true, v.extractLsb' 0 4 == 0x0, f.c⟩

/-- A row of the decimal-adjust table of R466, column by column. -/
structure AdjustRow where
  n : Bool
  cy : Bool
  upper : Nat × Nat
  hf : Bool
  lower : Nat × Nat
  add : Byte
  cyAfter : Bool

/-- The 13 rows of R466. -/
def adjustTable : List AdjustRow :=
  [⟨false, false, (0x0, 0x9), false, (0x0, 0x9), 0x00, false⟩, ⟨false, false, (0x0, 0x8), false, (0xA, 0xF), 0x06, false⟩,
   ⟨false, false, (0x0, 0x9), true, (0x0, 0x3), 0x06, false⟩, ⟨false, false, (0xA, 0xF), false, (0x0, 0x9), 0x60, true⟩,
   ⟨false, false, (0x9, 0xF), false, (0xA, 0xF), 0x66, true⟩, ⟨false, false, (0xA, 0xF), true, (0x0, 0x3), 0x66, true⟩]
  ++ [⟨false, true, (0x0, 0x2), false, (0x0, 0x9), 0x60, true⟩, ⟨false, true, (0x0, 0x2), false, (0xA, 0xF), 0x66, true⟩,
   ⟨false, true, (0x0, 0x3), true, (0x0, 0x3), 0x66, true⟩, ⟨true, false, (0x0, 0x9), false, (0x0, 0x9), 0x00, false⟩,
   ⟨true, false, (0x0, 0x8), true, (0x6, 0xF), 0xFA, false⟩, ⟨true, true, (0x7, 0xF), false, (0x0, 0x9), 0xA0, true⟩,
   ⟨true, true, (0x6, 0xF), true, (0x6, 0xF), 0x9A, true⟩]

/-- A row of R466 as a row of the model's table. -/
def AdjustRow.toDaaRow (r : AdjustRow) : DaaRow :=
  ⟨r.n, r.cy, r.upper.1, r.upper.2, r.hf, r.lower.1, r.lower.2, r.add, r.cyAfter⟩

/-- A row matches A and F (R466, R467). -/
def AdjustRow.Matches (r : AdjustRow) (a : Byte) (f : Flags) : Prop :=
  r.n = f.n ∧ r.cy = f.c ∧ r.hf = f.h ∧ r.upper.1 ≤ a.toNat / 16 ∧ a.toNat / 16 ≤ r.upper.2
    ∧ r.lower.1 ≤ a.toNat % 16 ∧ a.toNat % 16 ≤ r.lower.2

/-- A and F after DAA by a row (R467). -/
def adjustByRow (r : AdjustRow) (g : Regs) : Regs :=
  { g with a := g.a + r.add, flags := ⟨g.a + r.add == 0, g.flags.n, false, r.cyAfter⟩ }

/-- The carry after DAA by the hardware's algorithm (R467). -/
def hardwareCarry (g : Regs) : Bool := g.flags.c || (!g.flags.n && decide (0x99 < g.a.toNat))

/-- The correction of the hardware's algorithm (R467): 0x60, 0x06, both or neither. -/
def hardwareCorrection (g : Regs) : Byte :=
  (if hardwareCarry g then 0x60 else 0)
    + (if g.flags.h || (!g.flags.n && decide (9 < g.a.toNat % 16)) then 0x06 else 0)

/-- A after DAA by the hardware's algorithm (R467): added after an addition, subtracted after a subtraction. -/
def hardwareA (g : Regs) : Byte := if g.flags.n then g.a - hardwareCorrection g else g.a + hardwareCorrection g

/-- A and F after DAA by the hardware's algorithm (R467). -/
def adjustByHardware (g : Regs) : Regs :=
  { g with a := hardwareA g, flags := ⟨hardwareA g == 0, g.flags.n, false, hardwareCarry g⟩ }

/-- A byte in packed BCD: each nibble is a decimal digit. -/
def PackedBcd (v : Byte) : Prop := v.toNat / 16 ≤ 9 ∧ v.toNat % 16 ≤ 9

/-- The number a packed-BCD byte stands for. -/
def decimal (v : Byte) : Nat := 10 * (v.toNat / 16) + v.toNat % 16

/-! ### Rotates, shifts and bits -/

/-- The place of a rotate or shift in the CB table (R309). -/
def rotIndex (op : RotOp) : Nat :=
  match op with
  | .rlc => 0 | .rrc => 1 | .rl => 2 | .rr => 3 | .sla => 4 | .sra => 5 | .swap => 6 | .srl => 7

/-- The carry a rotate or shift leaves: the bit shifted out, and 0 for SWAP (R535 to R542). -/
def shiftedOut (op : RotOp) (v : Byte) : Bool :=
  match op with
  | .rlc | .rl | .sla => v.getLsbD 7
  | .rrc | .rr | .sra | .srl => v.getLsbD 0
  | .swap => false

/-- Bit `j` of the result of a rotate or shift (R535 to R542). -/
def shiftedBit (op : RotOp) (v : Byte) (cy : Bool) (j : Nat) : Bool :=
  match op with
  | .rlc => v.getLsbD ((j + 7) % 8)
  | .rrc => v.getLsbD ((j + 1) % 8)
  | .rl => if j = 0 then cy else v.getLsbD (j - 1)
  | .rr => if j = 7 then cy else v.getLsbD (j + 1)
  | .sla => if j = 0 then false else v.getLsbD (j - 1)
  | .sra => if j = 7 then v.getLsbD 7 else v.getLsbD (j + 1)
  | .swap => v.getLsbD ((j + 4) % 8)
  | .srl => if j = 7 then false else v.getLsbD (j + 1)

/-- The byte of eight bits. -/
def byteOf (f : Nat → Bool) : Byte :=
  BitVec.ofBool (f 7) ++ BitVec.ofBool (f 6) ++ BitVec.ofBool (f 5) ++ BitVec.ofBool (f 4)
    ++ BitVec.ofBool (f 3) ++ BitVec.ofBool (f 2) ++ BitVec.ofBool (f 1) ++ BitVec.ofBool (f 0)

/-- The result of a rotate or shift. -/
def shifted (op : RotOp) (v : Byte) (cy : Bool) : Byte := byteOf (shiftedBit op v cy)

/-- The flags of a CB rotate or shift (R530). -/
def shiftFlags (op : RotOp) (v : Byte) (cy : Bool) : Flags := ⟨shifted op v cy == 0, false, false, shiftedOut op v⟩

/-- A byte with bit `b` made `x`, and every other bit kept (R572, R573, R575). -/
def withBit (b : Fin 8) (x : Bool) (v : Byte) : Byte := byteOf (fun j => if j = b.val then x else v.getLsbD j)

/-! ### Which addresses an instruction stores to -/

/-- The store of A at an address. -/
def storeOfA (a : Word) (s : State) : List (Word × Byte) := [(a, s.regs.a)]

/-- The store of a byte at HL. -/
def storeAtHl (v : Byte) (s : State) : List (Word × Byte) := [(hlOf s.regs, v)]

/-- The stores of `Push16`, in order. -/
def storesOfPush (w : Word) (s : State) : List (Word × Byte) :=
  [(s.regs.sp - 1, w.extractLsb' 8 8), (s.regs.sp - 2, w.extractLsb' 0 8)]

/-- The stores of a conditional call. -/
def storesOfCall (cc : Cond) (s : State) : List (Word × Byte) :=
  if holds cc s.regs.flags then storesOfPush (s.regs.pc + 3) s else []

/-- The store of a rotate or shift of the byte at HL. -/
def storeOfShift (op : RotOp) (s : State) : List (Word × Byte) := storeAtHl (shifted op (atHl s) s.regs.flags.c) s

/-- The store of RES or SET of the byte at HL. -/
def storeOfBit (b : Fin 8) (x : Bool) (s : State) : List (Word × Byte) := storeAtHl (withBit b x (atHl s)) s

/-- The bytes an instruction stores, with their addresses, in order: the stores its rule lists, and no other. -/
def storesOf (i : Instr) (s : State) : List (Word × Byte) :=
  match i with
  | .ldIndHL_B => storeAtHl s.regs.b s | .ldIndHL_C => storeAtHl s.regs.c s | .ldIndHL_D => storeAtHl s.regs.d s
  | .ldIndHL_E => storeAtHl s.regs.e s | .ldIndHL_H => storeAtHl s.regs.h s | .ldIndHL_L => storeAtHl s.regs.l s
  | .ldIndHL_A => storeAtHl s.regs.a s | .ldIndHL_N8 n => storeAtHl n s
  | .ldIndHLInc_A => storeAtHl s.regs.a s | .ldIndHLDec_A => storeAtHl s.regs.a s
  | .ldIndBC_A => storeOfA (pairOf .bc s.regs) s | .ldIndDE_A => storeOfA (pairOf .de s.regs) s
  | .ldIndA16_A aa => storeOfA aa s | .ldhIndA8_A a => storeOfA (0xFF00 + a.setWidth 16) s
  | .ldIndC_A => storeOfA (0xFF00 + s.regs.c.setWidth 16) s
  | .ldIndA16_SP aa => [(aa, s.regs.sp.extractLsb' 0 8), (aa + 1, s.regs.sp.extractLsb' 8 8)]
  | .incIndHL => storeAtHl (atHl s + 1) s | .decIndHL => storeAtHl (atHl s - 1) s
  | .pushBC => storesOfPush (stackPairOf .bc s.regs) s | .pushDE => storesOfPush (stackPairOf .de s.regs) s
  | .pushHL => storesOfPush (stackPairOf .hl s.regs) s | .pushAF => storesOfPush (stackPairOf .af s.regs) s
  | .callA16 _ => storesOfPush (s.regs.pc + 3) s
  | .callNZ_A16 _ => storesOfCall .nz s | .callZ_A16 _ => storesOfCall .z s
  | .callNC_A16 _ => storesOfCall .nc s | .callC_A16 _ => storesOfCall .c s
  | .rst00 | .rst08 | .rst10 | .rst18 | .rst20 | .rst28 | .rst30 | .rst38 => storesOfPush (s.regs.pc + 1) s
  | .rlcIndHL => storeOfShift .rlc s | .rrcIndHL => storeOfShift .rrc s | .rlIndHL => storeOfShift .rl s
  | .rrIndHL => storeOfShift .rr s | .slaIndHL => storeOfShift .sla s | .sraIndHL => storeOfShift .sra s
  | .swapIndHL => storeOfShift .swap s | .srlIndHL => storeOfShift .srl s
  | .res0_IndHL => storeOfBit 0 false s | .res1_IndHL => storeOfBit 1 false s | .res2_IndHL => storeOfBit 2 false s
  | .res3_IndHL => storeOfBit 3 false s | .res4_IndHL => storeOfBit 4 false s | .res5_IndHL => storeOfBit 5 false s
  | .res6_IndHL => storeOfBit 6 false s | .res7_IndHL => storeOfBit 7 false s
  | .set0_IndHL => storeOfBit 0 true s | .set1_IndHL => storeOfBit 1 true s | .set2_IndHL => storeOfBit 2 true s
  | .set3_IndHL => storeOfBit 3 true s | .set4_IndHL => storeOfBit 4 true s | .set5_IndHL => storeOfBit 5 true s
  | .set6_IndHL => storeOfBit 6 true s | .set7_IndHL => storeOfBit 7 true s
  | _ => []

/-! ### Opcode bytes -/

/-- The opcode of an instruction. -/
def opcode (i : Instr) : Byte := (encode .two i).headD 0

/-- The byte after the opcode: the CB byte of a CB instruction. -/
def secondByte (i : Instr) : Byte := ((encode .two i).drop 1).headD 0

/-- Whether the instruction writes a flag (R103), by its opcode: the ALU block and its immediate forms, 8-bit INC and DEC, the accumulator
rotates with DAA, CPL, SCF and CCF, ADD HL,rr, the two SP offset forms, POP AF, and CB 0x00 to 0x7F. -/
def writesFlags (op cb : Byte) : Bool :=
  if op = 0xCB then decide (cb.toNat < 0x80)
  else
    (decide (0x80 ≤ op.toNat) && decide (op.toNat ≤ 0xBF))
      || (decide (0xC0 ≤ op.toNat) && decide (op.toNat % 8 = 6))
      || (decide (op.toNat < 0x40) && (decide (op.toNat % 8 = 4) || decide (op.toNat % 8 = 5) || decide (op.toNat % 8 = 7)))
      || (decide (op.toNat < 0x40) && decide (op.toNat % 16 = 9))
      || op == 0xE8 || op == 0xF8 || op == 0xF1

/-- Whether the instruction may set PC to a target (45_control.md), by its opcode. -/
def setsPc (op : Byte) : Bool :=
  op == 0x18 || (decide (0x20 ≤ op.toNat) && decide (op.toNat < 0x40) && decide (op.toNat % 8 = 0))
    || (decide (0xC0 ≤ op.toNat) && decide (op.toNat % 8 = 7))
    || (decide (0xC0 ≤ op.toNat) && decide (op.toNat < 0xE0)
      && (decide (op.toNat % 8 = 0) || decide (op.toNat % 8 = 2) || decide (op.toNat % 8 = 4)))
    || op == 0xC3 || op == 0xCD || op == 0xC9 || op == 0xD9 || op == 0xE9

/-- A cell of the tables of R313. -/
inductive Cost where
  | fixed (t : Nat)
  | cond (t n : Nat)
  | undef

/-- Rows 0x to 7x of R313 outside the LD block. -/
def costLow : List (List Cost) :=
  [[.fixed 4, .fixed 12, .fixed 8, .fixed 8, .fixed 4, .fixed 4, .fixed 8, .fixed 4,
    .fixed 20, .fixed 8, .fixed 8, .fixed 8, .fixed 4, .fixed 4, .fixed 8, .fixed 4],
   [.fixed 4, .fixed 12, .fixed 8, .fixed 8, .fixed 4, .fixed 4, .fixed 8, .fixed 4,
    .fixed 12, .fixed 8, .fixed 8, .fixed 8, .fixed 4, .fixed 4, .fixed 8, .fixed 4],
   [.cond 12 8, .fixed 12, .fixed 8, .fixed 8, .fixed 4, .fixed 4, .fixed 8, .fixed 4,
    .cond 12 8, .fixed 8, .fixed 8, .fixed 8, .fixed 4, .fixed 4, .fixed 8, .fixed 4],
   [.cond 12 8, .fixed 12, .fixed 8, .fixed 8, .fixed 12, .fixed 12, .fixed 12, .fixed 4,
    .cond 12 8, .fixed 8, .fixed 8, .fixed 8, .fixed 4, .fixed 4, .fixed 8, .fixed 4]]

/-- Rows 4x to Bx of R313: the byte at HL costs 4 more, and HALT stands in its place at 0x76. -/
def costBlock (op : Nat) : Nat :=
  if op = 0x76 then 4 else if op % 8 = 6 then 8 else if 0x70 ≤ op ∧ op < 0x78 then 8 else 4

/-- Rows Cx to Fx of R313; the cell of the prefix is not used. -/
def costHigh : List (List Cost) :=
  [[.cond 20 8, .fixed 12, .cond 16 12, .fixed 16, .cond 24 12, .fixed 16, .fixed 8, .fixed 16,
    .cond 20 8, .fixed 16, .cond 16 12, .undef, .cond 24 12, .fixed 24, .fixed 8, .fixed 16],
   [.cond 20 8, .fixed 12, .cond 16 12, .undef, .cond 24 12, .fixed 16, .fixed 8, .fixed 16,
    .cond 20 8, .fixed 16, .cond 16 12, .undef, .cond 24 12, .undef, .fixed 8, .fixed 16],
   [.fixed 12, .fixed 12, .fixed 8, .undef, .undef, .fixed 16, .fixed 8, .fixed 16,
    .fixed 16, .fixed 4, .fixed 16, .undef, .undef, .undef, .fixed 8, .fixed 16],
   [.fixed 12, .fixed 12, .fixed 8, .fixed 4, .undef, .fixed 16, .fixed 8, .fixed 16,
    .fixed 12, .fixed 8, .fixed 16, .fixed 4, .undef, .undef, .fixed 8, .fixed 16]]

/-- The cell of an opcode in R313. -/
def baseCost (op : Nat) : Cost :=
  if op < 0x40 then (costLow.getD (op / 16) []).getD (op % 16) .undef
  else if op < 0xC0 then .fixed (costBlock op)
  else (costHigh.getD (op / 16 - 12) []).getD (op % 16) .undef

/-- The cell of a CB byte in R314. -/
def cbCost (cb : Nat) : Nat := if cb % 8 = 6 then (if cb / 64 = 1 then 12 else 16) else 8

/-- The condition of a conditional opcode: bits 4:3 of every one of them (R303). -/
def condOf (op : Nat) (f : Flags) : Bool :=
  match op / 8 % 4 with
  | 0 => !f.z
  | 1 => f.z
  | 2 => !f.c
  | _ => f.c

/-- The ticks of an instruction in a state by R313 and R314. -/
def expectedTicks (op cb : Byte) (s : State) : Nat :=
  if op = 0xCB then cbCost cb.toNat
  else
    match baseCost op.toNat with
    | .fixed t => t
    | .cond t n => charge s.cfg (condOf op.toNat s.regs.flags) t n
    | .undef => s.cfg.undefTicks

/-! ### Devices -/

/-- `n` bytes of the DMA copy of R221, in ascending order. -/
def copied (v : Byte) : Nat → State → State
  | 0, s => s
  | n + 1, s =>
    let t := copied v n s
    let src := (v ++ 0x00#8 : Word) + BitVec.ofNat 16 n
    { afterRead src t with mem := t.mem.put (ramFill t.cfg.ramInit) (0xFE00 + n) (readVal src t) }

/-- The increments of TIMA in a delivery: the new TIMA, and whether one of them overflowed (R774). -/
def counted (tma : Byte) : Nat → Byte × Bool → Byte × Bool
  | 0, x => x
  | n + 1, x => counted tma n (if x.1 = 0xFF then (tma, true) else (x.1 + 1, x.2))

/-- `Divisor[TAC[1:0]]` (R772). -/
def divisor (tac : BitVec 3) : Nat :=
  if tac.extractLsb' 0 2 = 0 then 1024 else if tac.extractLsb' 0 2 = 1 then 16
  else if tac.extractLsb' 0 2 = 2 then 64 else 256

/-- Bits 1 and 0 of IF or'ed in. -/
def withRequests (stat vblank : Bool) (f : BitVec 5) : BitVec 5 :=
  f ||| (if stat then 0b00010 else 0) ||| (if vblank then 0b00001 else 0)

/-- A state after the display changed its mode, LY and coincidence and made its requests; the notes are those of R710. -/
def afterPhase (mode : Mode) (ly : Byte) (coincidence stat vblank : Bool) (s : State) : State :=
  { s with
    disp := { s.disp with mode := mode, ly := ly, coincidence := coincidence }
    irq := { s.irq with iflag := withRequests stat vblank s.irq.iflag }
    out := { s.out with statNote := s.out.statNote || stat, vblankNote := s.out.vblankNote || vblank } }

/-- The display at the start of line `n` of a frame that began at the start of line 0 (R787). -/
def AtLineStart (n : Nat) (d : Display) : Prop :=
  d.ly = BitVec.ofNat 8 n ∧ d.phaseTicks = 0 ∧ d.mode = if n < 144 then .oamScan else .vBlank

/-! ### Collaborators and storage -/

/-- The addresses of the external peripherals (R222). -/
def Peripheral (a : Word) : Prop := (0xFF00 ≤ a.toNat ∧ a.toNat ≤ 0xFF02) ∨ (0xFF10 ≤ a.toNat ∧ a.toNat ≤ 0xFF3F)

/-- The two windows of the cartridge (R14). -/
def CartAddress (a : Word) : Prop := a.toNat ≤ 0x7FFF ∨ (0xA000 ≤ a.toNat ∧ a.toNat ≤ 0xBFFF)

/-- The addresses of VRAM, WRAM, OAM and HRAM (R115). -/
def RamAddress (a : Word) : Prop :=
  (0x8000 ≤ a.toNat ∧ a.toNat ≤ 0x9FFF) ∨ (0xC000 ≤ a.toNat ∧ a.toNat ≤ 0xDFFF) ∨ (0xFE00 ≤ a.toNat ∧ a.toNat ≤ 0xFE9F)
    ∨ (0xFF80 ≤ a.toNat ∧ a.toNat ≤ 0xFFFE)

/-- What the RAM reads as after a reset with `RAM_INIT` (R803, log 4): a free value of its address, or the byte given for it, where the
last one listed counts, or the byte given for the rest. -/
def RamAfterReset (r : RamInit) (s : State) : Prop :=
  ∀ a : Word, RamAddress a →
    match r with
    | .unconstrained => readVal a s = Config.freeRam a.toNat
    | .given cells rest =>
      (∀ (before after : List Host.Cell) (v : Byte), cells = before ++ (a.toNat, v) :: after → (∀ x ∈ after, x.1 ≠ a.toNat) →
        readVal a s = v)
      ∧ ((∀ x ∈ cells, x.1 ≠ a.toNat) → readVal a s = rest)

/-- The cartridge after an event that it answers or receives freely (log 2). -/
def cartLogged (e : BusEvent) (c : Cart) : Cart := { c with events := e :: c.events }

/-- The peripherals after an event that they answer or receive freely (log 3). -/
def extLogged (e : BusEvent) (x : Peripherals) : Peripherals := { x with events := e :: x.events }

end Sys2Proof.Claims

open Sys2Proof Sys2Proof.Machine Sys2Proof.Claims

/-! ### Loads and stack transfers -/

/-- R401: LD r,r' copies a register in 4 ticks and changes nothing else but PC. -/
def Obligations.LoadRegisterFromRegister : Prop :=
  ∀ (dst src : R8) (s : State), dst ≠ .hlInd → src ≠ .hlInd →
    exec (ldRow dst src) s = .next (onward 1 4 (withReg dst (regOf src s.regs) s.regs) s)

/-- R402: LD r,n8, with its opcode `00 yyy 110` and its immediate. -/
def Obligations.LoadRegisterImmediate : Prop :=
  ∀ (r : R8) (n : Byte), r ≠ .hlInd →
    (∀ (sl : StopLength) (rest : List Byte),
        decode sl (BitVec.ofNat 8 (8 * index r + 6) :: n :: rest) = .ok (ldN8Row r n, rest))
      ∧ ∀ s : State, exec (ldN8Row r n) s = .next (onward 2 8 (withReg r n s.regs) s)

/-- R403, R404, R405: the loads through HL read or store one byte at the address HL had before. -/
def Obligations.LoadsAndStoresThroughHl : Prop :=
  (∀ (dst : R8) (s : State), dst ≠ .hlInd →
      exec (ldRow dst .hlInd) s = .next (onward 1 8 (withReg dst (atHl s) s.regs) (readHl s)))
  ∧ (∀ (src : R8) (s : State), src ≠ .hlInd →
      exec (ldRow .hlInd src) s = .next (onward 1 8 s.regs (memWrite (hlOf s.regs) (regOf src s.regs) s)))
  ∧ ∀ (n : Byte) (s : State),
      exec (.ldIndHL_N8 n) s = .next (onward 2 12 s.regs (memWrite (hlOf s.regs) n s))

/-- R406, R408, R410, R412: the loads of A from an address. -/
def Obligations.AccumulatorLoads : Prop :=
  LoadsA .ldA_IndBC 1 8 (pairOf .bc) ∧ LoadsA .ldA_IndDE 1 8 (pairOf .de)
  ∧ (∀ aa : Word, LoadsA (.ldA_IndA16 aa) 3 16 (fun _ => aa))
  ∧ (∀ a : Byte, LoadsA (.ldhA_IndA8 a) 2 12 (fun _ => 0xFF00 + a.setWidth 16))
  ∧ LoadsA .ldA_IndC 1 8 (fun g => 0xFF00 + g.c.setWidth 16)

/-- R407, R409, R411, R413: the stores of A at an address. 0xE2 is a working store (R413). -/
def Obligations.AccumulatorStores : Prop :=
  StoresA .ldIndBC_A 1 8 (pairOf .bc) ∧ StoresA .ldIndDE_A 1 8 (pairOf .de)
  ∧ (∀ aa : Word, StoresA (.ldIndA16_A aa) 3 16 (fun _ => aa))
  ∧ (∀ a : Byte, StoresA (.ldhIndA8_A a) 2 12 (fun _ => 0xFF00 + a.setWidth 16))
  ∧ StoresA .ldIndC_A 1 8 (fun g => 0xFF00 + g.c.setWidth 16)

/-- R414 to R417: the access is at the old HL, and HL then moves by one, mod 2^16. -/
def Obligations.SteppingLoads : Prop :=
  ∀ s : State,
    exec .ldIndHLInc_A s
        = .next (onward 1 8 (withPair .hl (hlOf s.regs + 1) s.regs) (memWrite (hlOf s.regs) s.regs.a s))
    ∧ exec .ldA_IndHLInc s
        = .next (onward 1 8 (withPair .hl (hlOf s.regs + 1) { s.regs with a := atHl s }) (readHl s))
    ∧ exec .ldIndHLDec_A s
        = .next (onward 1 8 (withPair .hl (hlOf s.regs - 1) s.regs) (memWrite (hlOf s.regs) s.regs.a s))
    ∧ exec .ldA_IndHLDec s
        = .next (onward 1 8 (withPair .hl (hlOf s.regs - 1) { s.regs with a := atHl s }) (readHl s))

/-- R418, R419, R420: the 16-bit loads. LD (a16),SP stores the low byte first, at the lower address. -/
def Obligations.WordLoads : Prop :=
  (∀ (p : R16) (nn : Word) (s : State), exec (ldN16Row p nn) s = .next (onward 3 12 (withPair p nn s.regs) s))
  ∧ (∀ (aa : Word) (s : State), exec (.ldIndA16_SP aa) s
      = .next (onward 3 20 s.regs
          (memWrite (aa + 1) (s.regs.sp.extractLsb' 8 8) (memWrite aa (s.regs.sp.extractLsb' 0 8) s))))
  ∧ ∀ s : State, exec .ldSP_HL s = .next (onward 1 8 { s.regs with sp := hlOf s.regs } s)

/-- R421, R422: PUSH stores the high byte at SP-1 and then the low byte at SP-2; POP reads the low byte first. POP AF writes all four
flags, and PUSH AF stores them with a zero low nibble. -/
def Obligations.StackTransfers : Prop :=
  ∀ (q : R16P) (s : State),
    exec (pushRow q) s
        = .next (onward 1 16 { s.regs with sp := s.regs.sp - 2 } (pushed (stackPairOf q s.regs) s))
    ∧ exec (popRow q) s
        = .next (onward 1 12 (withStackPair q (poppedWord s) { s.regs with sp := s.regs.sp + 2 }) (poppedState s))

/-! ### 8-bit arithmetic and logic -/

/-- R451 and R453: the add and logic primitives, as numbers. -/
def Obligations.AddAndLogicPrimitives : Prop :=
  (∀ (a b : Byte) (cin : Bool),
      let sum := a.toNat + b.toNat + cin.toNat
      (add8 a b cin).1.toNat = sum % 256
      ∧ (add8 a b cin).2
          = ⟨decide (sum % 256 = 0), false, decide (15 < a.toNat % 16 + b.toNat % 16 + cin.toNat), decide (255 < sum)⟩)
  ∧ ∀ a b : Byte,
      and8 a b = (a &&& b, ⟨a &&& b == 0, false, true, false⟩)
      ∧ or8 a b = (a ||| b, ⟨a ||| b == 0, false, false, false⟩)
      ∧ xor8 a b = (a ^^^ b, ⟨a ^^^ b == 0, false, false, false⟩)

/-- R452 and R471(a): the subtract primitive, as numbers, and that it undoes the add. -/
def Obligations.SubtractPrimitive : Prop :=
  ∀ (a b : Byte) (cin : Bool),
    ((sub8 a b cin).1.toNat + b.toNat + cin.toNat) % 256 = a.toNat
    ∧ (sub8 a b cin).2
        = ⟨(sub8 a b cin).1 == 0, true, decide (a.toNat % 16 < b.toNat % 16 + cin.toNat), decide (a.toNat < b.toNat + cin.toNat)⟩
    ∧ (sub8 (add8 a b false).1 b false).1 = a

/-- R454 to R461: every operation of the ALU block on every operand. CP leaves A. -/
def Obligations.AluInstructions : Prop :=
  ∀ (op : AluOp) (s : State),
    (∀ r : R8, r ≠ .hlInd → exec (aluRow op r) s = .next (onward 1 4 (aluEffect op (regOf r s.regs) s.regs) s))
    ∧ exec (aluRow op .hlInd) s = .next (onward 1 8 (aluEffect op (atHl s) s.regs) (readHl s))
    ∧ ∀ n : Byte, exec (aluN8Row op n) s = .next (onward 2 8 (aluEffect op n s.regs) s)

/-- R462 to R465: 8-bit INC and DEC keep Cy; on (HL) the read comes first and the result is stored. -/
def Obligations.ByteIncrementsAndDecrements : Prop :=
  ∀ s : State,
    (∀ r : R8, r ≠ .hlInd →
      exec (incRow r) s
          = .next (onward 1 4 { withReg r (regOf r s.regs + 1) s.regs with flags := incFlags (regOf r s.regs) s.regs.flags } s)
      ∧ exec (decRow r) s
          = .next (onward 1 4 { withReg r (regOf r s.regs - 1) s.regs with flags := decFlags (regOf r s.regs) s.regs.flags } s))
    ∧ exec .incIndHL s
        = .next (onward 1 12 { s.regs with flags := incFlags (atHl s) s.regs.flags } (modifyHl (atHl s + 1) s))
    ∧ exec .decIndHL s
        = .next (onward 1 12 { s.regs with flags := decFlags (atHl s) s.regs.flags } (modifyHl (atHl s - 1) s))

/-- R467: DAA by the row that matches; where none does, the fault or the hardware's algorithm, as `DAA_MISS_POLICY` says. -/
def Obligations.DecimalAdjust : Prop :=
  ∀ s : State,
    (∀ row ∈ adjustTable, row.Matches s.regs.a s.regs.flags → exec .daa s = .next (onward 1 4 (adjustByRow row s.regs) s))
    ∧ ((∀ row ∈ adjustTable, ¬ row.Matches s.regs.a s.regs.flags) →
        (s.cfg.daaMissPolicy = .fault → exec .daa s = .fault .daaTableMiss)
        ∧ (s.cfg.daaMissPolicy = .hardwareAlgorithm → exec .daa s = .next (onward 1 4 (adjustByHardware s.regs) s)))

/-- R466: the model's table is the 13 rows of the rule, each matching as the rule says; at most one covers any A and F, and DAA finds that
one; where one covers, its result is that of the model's hardware algorithm; where none does, none is found. -/
def Obligations.DecimalAdjustTable : Prop :=
  daaTable.length = 13 ∧ daaTable = adjustTable.map AdjustRow.toDaaRow
  ∧ (∀ row ∈ adjustTable, ∀ (a : Byte) (f : Flags), row.toDaaRow.covers a f = true ↔ row.Matches a f)
  ∧ (∀ (i j : Nat) (ri rj : DaaRow) (a : Byte) (f : Flags), daaTable[i]? = some ri → daaTable[j]? = some rj →
      ri.covers a f = true → rj.covers a f = true → i = j)
  ∧ (∀ row ∈ daaTable, ∀ (a : Byte) (f : Flags), row.covers a f = true →
      daaFind a f = some row ∧ daaByRow row a f = daaHardware a f)
  ∧ ∀ (a : Byte) (f : Flags), (∀ row ∈ daaTable, row.covers a f = false) → daaFind a f = none

/-- R471(c): DAA right after ADD, ADC, SUB or SBC of packed-BCD bytes never misses the table, under either policy, and gives the decimal
sum or difference with its carry. -/
def Obligations.DecimalArithmetic : Prop :=
  ∀ (s : State) (n : Byte), PackedBcd s.regs.a → PackedBcd n →
    (∀ op : AluOp, op = .add ∨ op = .adc →
      ∃ t u, exec (aluN8Row op n) s = .next t ∧ exec .daa t = .next u ∧ PackedBcd u.regs.a
        ∧ let sum := decimal s.regs.a + decimal n + (if op = .adc then s.regs.flags.c.toNat else 0)
          decimal u.regs.a = sum % 100 ∧ u.regs.flags.c = decide (99 < sum))
    ∧ ∀ op : AluOp, op = .sub ∨ op = .sbc →
      ∃ t u, exec (aluN8Row op n) s = .next t ∧ exec .daa t = .next u ∧ PackedBcd u.regs.a
        ∧ let taken := decimal n + (if op = .sbc then s.regs.flags.c.toNat else 0)
          (decimal u.regs.a + taken) % 100 = decimal s.regs.a ∧ u.regs.flags.c = decide (decimal s.regs.a < taken)

/-- R468: CPL, with its opcode. R469 and R470: SCF and CCF. -/
def Obligations.ComplementAndCarryFlag : Prop :=
  (∀ (sl : StopLength) (rest : List Byte), decode sl (0x2F :: rest) = .ok (.cpl, rest))
  ∧ ∀ s : State,
    exec .cpl s
        = .next (onward 1 4 { s.regs with a := s.regs.a ^^^ 0xFF, flags := { s.regs.flags with n := true, h := true } } s)
    ∧ exec .scf s = .next (onward 1 4 { s.regs with flags := { s.regs.flags with n := false, h := false, c := true } } s)
    ∧ exec .ccf s
        = .next (onward 1 4 { s.regs with flags := { s.regs.flags with n := false, h := false, c := !s.regs.flags.c } } s)

/-! ### 16-bit arithmetic -/

/-- R501: ADD HL,rr, with its opcode `00 pp1 001`. Z is kept. -/
def Obligations.AddToHl : Prop :=
  ∀ p : R16,
    (∀ (sl : StopLength) (rest : List Byte),
        decode sl (BitVec.ofNat 8 (16 * pairIndex p + 9) :: rest) = .ok (addHLRow p, rest))
    ∧ ∀ s : State,
      let a := (hlOf s.regs).toNat
      let b := (pairOf p s.regs).toNat
      exec (addHLRow p) s
        = .next (onward 1 8
            { withPair .hl (BitVec.ofNat 16 (a + b)) s.regs with
              flags := ⟨s.regs.flags.z, false, decide (0x0FFF < a % 0x1000 + b % 0x1000), decide (0xFFFF < a + b)⟩ } s)

/-- R502 and R503: INC rr and DEC rr, with their opcodes `00 pp0 011` and `00 pp1 011`. No flag is written. -/
def Obligations.PairIncrementsAndDecrements : Prop :=
  ∀ p : R16,
    (∀ (sl : StopLength) (rest : List Byte),
        decode sl (BitVec.ofNat 8 (16 * pairIndex p + 3) :: rest) = .ok (incPairRow p, rest)
        ∧ decode sl (BitVec.ofNat 8 (16 * pairIndex p + 11) :: rest) = .ok (decPairRow p, rest))
    ∧ ∀ s : State,
      exec (incPairRow p) s = .next (onward 1 8 (withPair p (pairOf p s.regs + 1) s.regs) s)
      ∧ exec (decPairRow p) s = .next (onward 1 8 (withPair p (pairOf p s.regs - 1) s.regs) s)

/-- R504, R505 and R506(c): the two SP offset forms give the same value and flags; Hf and Cy are those of the unsigned low-byte sum. -/
def Obligations.StackPointerOffsets : Prop :=
  ∀ (e : Byte) (s : State),
    let w := s.regs.sp + e.signExtend 16
    let f : Flags := ⟨false, false, decide (0x0F < s.regs.sp.toNat % 0x10 + e.toNat % 0x10),
      decide (0xFF < s.regs.sp.toNat % 0x100 + e.toNat)⟩
    exec (.addSP_E8 e) s = .next (onward 2 16 { s.regs with sp := w, flags := f } s)
    ∧ exec (.ldHL_SPE8 e) s = .next (onward 2 12 { withPair .hl w s.regs with flags := f } s)

/-! ### Rotates, shifts and bits -/

/-- R530 to R534: the rotates of A compute as their CB forms do, and write Z = 0 whatever the result. -/
def Obligations.AccumulatorRotates : Prop :=
  ∀ s : State, ∀ op ∈ [(RotOp.rlc, Instr.rlca), (.rrc, .rrca), (.rl, .rla), (.rr, .rra)],
    exec op.2 s
      = .next (onward 1 4
          { s.regs with
            a := shifted op.1 s.regs.a s.regs.flags.c
            flags := ⟨false, false, false, shiftedOut op.1 s.regs.a⟩ } s)

/-- R535 to R542: the CB rotates and shifts, with their encoding `0xCB, 00 ooo zzz`; on (HL) the read comes first and the result is always
stored. -/
def Obligations.RotatesAndShifts : Prop :=
  ∀ op : RotOp,
    (∀ (x : R8) (sl : StopLength) (rest : List Byte),
        decode sl (0xCB :: BitVec.ofNat 8 (8 * rotIndex op + index x) :: rest) = .ok (rotRow op x, rest))
    ∧ ∀ s : State,
      (∀ x : R8, x ≠ .hlInd →
        exec (rotRow op x) s
          = .next (onward 2 8
              { withReg x (shifted op (regOf x s.regs) s.regs.flags.c) s.regs with
                flags := shiftFlags op (regOf x s.regs) s.regs.flags.c } s))
      ∧ exec (rotRow op .hlInd) s
          = .next (onward 2 16 { s.regs with flags := shiftFlags op (atHl s) s.regs.flags.c }
              (modifyHl (shifted op (atHl s) s.regs.flags.c) s))

/-- R571: BIT b,r, with its encoding `0xCB, 01 bbb zzz`; it reads its operand and never writes it, and Cy is kept. -/
def Obligations.BitTest : Prop :=
  ∀ b : Fin 8,
    (∀ (x : R8) (sl : StopLength) (rest : List Byte),
        decode sl (0xCB :: BitVec.ofNat 8 (0x40 + 8 * b.val + index x) :: rest) = .ok (bitRow b x, rest))
    ∧ ∀ s : State,
      (∀ x : R8, x ≠ .hlInd →
        exec (bitRow b x) s
          = .next (onward 2 8
              { s.regs with flags := ⟨!(regOf x s.regs).getLsbD b, false, true, s.regs.flags.c⟩ } s))
      ∧ exec (bitRow b .hlInd) s
          = .next (onward 2 12 { s.regs with flags := ⟨!(atHl s).getLsbD b, false, true, s.regs.flags.c⟩ } (readHl s))

/-- R572, R573 and R575(b): RES and SET make one bit 0 or 1, keep the other seven and every flag, and always store on (HL). -/
def Obligations.BitResetAndSet : Prop :=
  ∀ (b : Fin 8) (s : State),
    (∀ x : R8, x ≠ .hlInd →
      exec (resRow b x) s = .next (onward 2 8 (withReg x (withBit b false (regOf x s.regs)) s.regs) s)
      ∧ exec (setRow b x) s = .next (onward 2 8 (withReg x (withBit b true (regOf x s.regs)) s.regs) s))
    ∧ exec (resRow b .hlInd) s = .next (onward 2 16 s.regs (modifyHl (withBit b false (atHl s)) s))
    ∧ exec (setRow b .hlInd) s = .next (onward 2 16 s.regs (modifyHl (withBit b true (atHl s)) s))

/-! ### Control flow -/

/-- R601 to R605: the jumps. A relative target counts from the address after the jump. -/
def Obligations.Jumps : Prop :=
  ∀ s : State,
    (∀ aa : Word, exec (.jpA16 aa) s = .next (landing aa 16 s.regs s))
    ∧ exec .jpHL s = .next (landing (hlOf s.regs) 4 s.regs s)
    ∧ (∀ e : Byte, exec (.jrE8 e) s = .next (landing (s.regs.pc + 2 + e.signExtend 16) 12 s.regs s))
    ∧ (∀ (cc : Cond) (aa : Word), exec (jpRow cc aa) s
        = .next (if holds cc s.regs.flags then landing aa (charge s.cfg true 16 12) s.regs s
            else onward 3 (charge s.cfg false 16 12) s.regs s))
    ∧ ∀ (cc : Cond) (e : Byte), exec (jrRow cc e) s
        = .next (if holds cc s.regs.flags then landing (s.regs.pc + 2 + e.signExtend 16) (charge s.cfg true 12 8) s.regs s
            else onward 2 (charge s.cfg false 12 8) s.regs s)

/-- R606, R607, R610: the calls and restarts push the address after the instruction; a call not taken makes no stack access. -/
def Obligations.CallsAndRestarts : Prop :=
  ∀ s : State,
    let down : Regs := { s.regs with sp := s.regs.sp - 2 }
    (∀ aa : Word, exec (.callA16 aa) s = .next (landing aa 24 down (pushed (s.regs.pc + 3) s)))
    ∧ (∀ (cc : Cond) (aa : Word), exec (callRow cc aa) s
        = .next (if holds cc s.regs.flags then landing aa (charge s.cfg true 24 12) down (pushed (s.regs.pc + 3) s)
            else onward 3 (charge s.cfg false 24 12) s.regs s))
    ∧ ∀ y : Fin 8, exec (rstRow y) s
        = .next (landing (BitVec.ofNat 16 (8 * y.val)) 16 down (pushed (s.regs.pc + 1) s))

/-- R608, R609, R611: the returns pop PC; RETI also sets IME at once and clears both slots of its pipeline. -/
def Obligations.Returns : Prop :=
  ∀ s : State,
    let up : Regs := { s.regs with sp := s.regs.sp + 2 }
    exec .ret s = .next (landing (poppedWord s) 16 up (poppedState s))
    ∧ (∀ cc : Cond, exec (retRow cc) s
        = .next (if holds cc s.regs.flags then landing (poppedWord s) (charge s.cfg true 20 8) up (poppedState s)
            else onward 1 (charge s.cfg false 20 8) s.regs s))
    ∧ exec .reti s
        = .next
            { landing (poppedWord s) 16 up (poppedState s) with
              irq := { s.irq with ime := true, imeDelayed := none, imeRequest := none } }

/-! ### Control and system instructions -/

/-- R650, R651, R652: NOP, HALT and STOP. STOP's length is `STOP_LENGTH`. -/
def Obligations.NopHaltAndStop : Prop :=
  ∀ s : State,
    exec .nop s = .next (onward 1 4 s.regs s)
    ∧ exec .halt s = .next { onward 1 4 s.regs s with halted := true }
    ∧ exec .stop s
        = .next { onward (match s.cfg.stopLength with | .one => 1 | .two => 2) 4 s.regs s with halted := true }

/-- R653, R654: DI and EI leave IME and request its new value. -/
def Obligations.InterruptEnableRequests : Prop :=
  ∀ s : State,
    exec .di s = .next { onward 1 4 s.regs s with irq := { s.irq with imeRequest := some false } }
    ∧ exec .ei s = .next { onward 1 4 s.regs s with irq := { s.irq with imeRequest := some true } }

/-- R655: each of the eleven undefined opcodes under both values of `INVALID_OPCODE_POLICY`. -/
def Obligations.UndefinedOpcodes : Prop :=
  ∀ s : State,
    ∀ u ∈ [((0xD3 : Byte), Instr.undefinedD3), (0xDB, .undefinedDB), (0xDD, .undefinedDD), (0xE3, .undefinedE3),
        (0xE4, .undefinedE4), (0xEB, .undefinedEB), (0xEC, .undefinedEC), (0xED, .undefinedED), (0xF4, .undefinedF4),
        (0xFC, .undefinedFC), (0xFD, .undefinedFD)],
      (∀ (sl : StopLength) (rest : List Byte), decode sl (u.1 :: rest) = .ok (u.2, rest))
      ∧ (s.cfg.invalidOpcodePolicy = .nop → exec u.2 s = .next (onward 1 s.cfg.undefTicks s.regs s))
      ∧ (s.cfg.invalidOpcodePolicy = .fault → exec u.2 s = .fault (.invalidOpcode u.1))

/-- R656: the prefix and its CB byte are one instruction, the one of the CB table; the row of the prefix alone runs it (log 9). -/
def Obligations.PrefixRunsTheCbRow : Prop :=
  ∀ cb : Byte,
    (∀ (sl : StopLength) (rest : List Byte), decode sl (0xCB :: cb :: rest) = .ok (cbRow cb, rest))
    ∧ ∀ s : State, ∃ t, exec (cbRow cb) s = .next t ∧ exec (.prefixCb cb) s = .next t
        ∧ t.regs.pc = s.regs.pc + 2 ∧ t.out.ticks = cbCost cb.toNat

/-! ### The bus -/

/-- R205, R207, R208, R209, R210 and R216: work RAM, zero-page RAM, video RAM, object-attribute RAM and the echo are plain storage, and the
unusable range reads 0x00 and discards writes. -/
def Obligations.StorageRegions : Prop :=
  ∀ (s : State) (a : Word) (v : Byte),
    ((0x8000 ≤ a.toNat ∧ a.toNat ≤ 0x9FFF) ∨ (0xC000 ≤ a.toNat ∧ a.toNat ≤ 0xFE9F) ∨ (0xFF80 ≤ a.toNat ∧ a.toNat ≤ 0xFFFE) →
      readVal a (memWrite a v s) = v ∧ afterRead a s = s
      ∧ memWrite a v s = { s with mem := (memWrite a v s).mem })
    ∧ (0xE000 ≤ a.toNat ∧ a.toNat ≤ 0xFDFF →
      readVal a s = readVal (a - 0x2000) s ∧ memWrite a v s = memWrite (a - 0x2000) v s)
    ∧ (0xFEA0 ≤ a.toNat ∧ a.toNat ≤ 0xFEFF → readVal a s = 0x00 ∧ afterRead a s = s ∧ memWrite a v s = s)

/-- R223: a read of a core-owned location changes nothing; any other read is an event of the collaborator that answers it, and changes
nothing else. The event is an entry of the history where the answer is free (logs 2, 3), and the stores that a named device makes on a
read (log 17). -/
def Obligations.ReadsAreIdempotentOrEvents : Prop :=
  ∀ (s : State) (a : Word),
    (coreOwned s a = true → afterRead a s = s)
    ∧ (coreOwned s a = false → Peripheral a →
        afterRead a s
          = { s with
              ext := match s.cfg.extIo with
                | .unnamed => extLogged (.read a) s.ext
                | .named d => { s.ext with cells := deviceStores d.onRead a 0 s.ext.cells } })
    ∧ (coreOwned s a = false → ¬ Peripheral a →
        CartAddress a
        ∧ afterRead a s
          = { s with
              cart := match s.cfg.cartridge with
                | .unnamed | .flat _ => cartLogged (.read a) s.cart
                | .named d => { s.cart with cells := deviceStores d.onRead a 0 s.cart.cells } })

/-- R224, R241: a store changes no core-owned byte but those it reaches, and nothing of the state that no address shows but the
accumulators that a write of DIV or TAC clears. -/
def Obligations.StoresLeaveTheRest : Prop :=
  ∀ (s : State) (a : Word) (v : Byte),
    let t := memWrite a v s
    (∀ b : Word, coreOwned s b = true → ¬ storeTouches a v b → readVal b t = readVal b s)
    ∧ t.cfg = s.cfg ∧ t.regs = s.regs ∧ t.halted = s.halted ∧ t.fault = s.fault ∧ t.out = s.out
    ∧ t.irq.ime = s.irq.ime ∧ t.irq.imeDelayed = s.irq.imeDelayed ∧ t.irq.imeRequest = s.irq.imeRequest
    ∧ t.disp.mode = s.disp.mode ∧ t.disp.phaseTicks = s.disp.phaseTicks ∧ t.disp.ly = s.disp.ly
    ∧ t.disp.coincidence = s.disp.coincidence
    ∧ (a ≠ 0xFF04 → t.timer.divAcc = s.timer.divAcc) ∧ (a ≠ 0xFF07 → t.timer.timaAcc = s.timer.timaAcc)

/-- R220, R221: a store of `v` at 0xFF46 sets DMA; up to 0xF1 it copies 160 bytes in ascending order, each read through the router. -/
def Obligations.DmaCopy : Prop :=
  ∀ (s : State) (v : Byte),
    let s1 : State := { s with dma := v }
    let t := memWrite 0xFF46 v s
    (0xF1 < v.toNat → t = s1)
    ∧ (v.toNat ≤ 0xF1 →
        t = copied v 160 s1
        ∧ ∀ i : Nat, i < 160 →
            let src : Word := (v ++ 0x00#8 : Word) + BitVec.ofNat 16 i
            readVal (0xFE00 + BitVec.ofNat 16 i) t = readVal src (copied v i s1)
            ∧ (coreOwned s src = true → readVal src (copied v i s1) = readVal src s))

/-- R212, R214, R217, R218, R219, R220, R770, R780, R781: what each register of the I/O map and IE reads as. An address of the external
peripherals (R222) reads as their answer: a free value of their history where none is named (log 3), else the named device's (log 17). -/
def Obligations.IoReads : Prop :=
  ∀ s : State,
    readVal 0xFF04 s = s.timer.div ∧ readVal 0xFF05 s = s.timer.tima ∧ readVal 0xFF06 s = s.timer.tma
    ∧ readVal 0xFF07 s = 0xF8 ||| s.timer.tac.setWidth 8
    ∧ readVal 0xFF0F s = (s.cfg.ifUnusedRead.setWidth 8 <<< 5) ||| s.irq.iflag.setWidth 8
    ∧ readVal 0xFF40 s = s.disp.lcdc
    ∧ readVal 0xFF41 s
        = 0x80 ||| (s.disp.statEn.setWidth 8 <<< 3) ||| (if s.disp.coincidence then 0x04 else 0x00)
          ||| (match s.disp.mode with | .hBlank => 0 | .vBlank => 1 | .oamScan => 2 | .transfer => 3)
    ∧ readVal 0xFF42 s = s.disp.scy ∧ readVal 0xFF43 s = s.disp.scx ∧ readVal 0xFF44 s = s.disp.ly
    ∧ readVal 0xFF45 s = s.disp.lyc ∧ readVal 0xFF46 s = s.dma ∧ readVal 0xFF47 s = s.disp.bgp
    ∧ readVal 0xFF48 s = s.disp.obp0 ∧ readVal 0xFF49 s = s.disp.obp1 ∧ readVal 0xFF4A s = s.disp.wy
    ∧ readVal 0xFF4B s = s.disp.wx ∧ readVal 0xFF50 s = s.cfg.unmappedRead ∧ readVal 0xFFFF s = s.irq.ie
    ∧ (∀ a : Word, a = 0xFF03 ∨ (0xFF08 ≤ a.toNat ∧ a.toNat ≤ 0xFF0E) ∨ (0xFF4C ≤ a.toNat ∧ a.toNat ≤ 0xFF4F)
        ∨ (0xFF51 ≤ a.toNat ∧ a.toNat ≤ 0xFF7F) → readVal a s = s.cfg.unmappedRead)
    ∧ ∀ a : Word, Peripheral a →
        readVal a s
          = match s.cfg.extIo with
            | .unnamed => Config.extAnswer s.ext.events a
            | .named d => deviceAnswer d s.ext.cells a

/-- R212, R214, R217, R218, R219, R222, R771, R781: what a store to each register of the I/O map and IE does, and that it does nothing
else; 0xFF46 is left to DmaCopy. R222 gives a store to the external peripherals only as `ext_write`: that it enters their history where
none is named is the DESIGN CHOICE of log 3, and that it makes a named device's stores is that of log 17. -/
def Obligations.IoWrites : Prop :=
  ∀ (s : State) (v : Byte),
    memWrite 0xFF04 v s = { s with timer := { s.timer with div := 0, divAcc := 0 } }
    ∧ memWrite 0xFF05 v s = { s with timer := { s.timer with tima := v } }
    ∧ memWrite 0xFF06 v s = { s with timer := { s.timer with tma := v } }
    ∧ memWrite 0xFF07 v s
        = { s with
            timer := { s.timer with
              tac := v.extractLsb' 0 3
              timaAcc := if v.extractLsb' 0 2 = s.timer.tac.extractLsb' 0 2 then s.timer.timaAcc else 0 } }
    ∧ memWrite 0xFF0F v s = { s with irq := { s.irq with iflag := v.extractLsb' 0 5 } }
    ∧ memWrite 0xFF40 v s = { s with disp := { s.disp with lcdc := v } }
    ∧ memWrite 0xFF41 v s = { s with disp := { s.disp with statEn := v.extractLsb' 3 4 } }
    ∧ memWrite 0xFF42 v s = { s with disp := { s.disp with scy := v } }
    ∧ memWrite 0xFF43 v s = { s with disp := { s.disp with scx := v } }
    ∧ memWrite 0xFF44 v s = s
    ∧ memWrite 0xFF45 v s = { s with disp := { s.disp with lyc := v } }
    ∧ memWrite 0xFF47 v s = { s with disp := { s.disp with bgp := v } }
    ∧ memWrite 0xFF48 v s = { s with disp := { s.disp with obp0 := v } }
    ∧ memWrite 0xFF49 v s = { s with disp := { s.disp with obp1 := v } }
    ∧ memWrite 0xFF4A v s = { s with disp := { s.disp with wy := v } }
    ∧ memWrite 0xFF4B v s = { s with disp := { s.disp with wx := v } }
    ∧ memWrite 0xFF50 v s = { s with bootOverlay := s.bootOverlay && v == 0 }
    ∧ memWrite 0xFFFF v s = { s with irq := { s.irq with ie := v } }
    ∧ ∀ a : Word,
        (a = 0xFF03 ∨ (0xFF08 ≤ a.toNat ∧ a.toNat ≤ 0xFF0E) ∨ (0xFF4C ≤ a.toNat ∧ a.toNat ≤ 0xFF4F)
          ∨ (0xFF51 ≤ a.toNat ∧ a.toNat ≤ 0xFF7F) → memWrite a v s = s)
        ∧ (Peripheral a →
            memWrite a v s
              = { s with
                  ext := match s.cfg.extIo with
                    | .unnamed => extLogged (.write a v) s.ext
                    | .named d => { s.ext with cells := deviceStores d.onWrite a v s.ext.cells } })

/-! ### Rules over all instructions -/

/-- R241, with the stores each rule lists: an instruction changes no core-owned byte but those its stores reach. -/
def Obligations.InstructionsStoreOnlyWhereTheySay : Prop :=
  ∀ (i : Instr) (s t : State), i.wellFormed = true → exec i s = .next t →
    ∀ b : Word, coreOwned s b = true → (∀ x ∈ storesOf i s, ¬ storeTouches x.1 x.2 b) → readVal b t = readVal b s

/-- R400, R450, R500, R570, R600, R650: an instruction that stores nothing changes no memory, device or interrupt register; only HALT and
STOP halt, and only DI, EI and RETI touch IME and its pipeline. A named collaborator keeps its state where its reads store nothing (log
17). -/
def Obligations.InstructionsThatStoreNothing : Prop :=
  ∀ (i : Instr) (s t : State), i.wellFormed = true → exec i s = .next t → storesOf i s = [] →
    t.cfg = s.cfg ∧ t.mem = s.mem ∧ t.cart.image = s.cart.image ∧ t.timer = s.timer ∧ t.disp = s.disp ∧ t.dma = s.dma
    ∧ t.bootOverlay = s.bootOverlay ∧ t.fault = s.fault ∧ t.irq.ie = s.irq.ie ∧ t.irq.iflag = s.irq.iflag
    ∧ (i ≠ .halt → i ≠ .stop → t.halted = s.halted) ∧ (i ≠ .di → i ≠ .ei → i ≠ .reti → t.irq = s.irq)
    ∧ (∀ d : Device, s.cfg.cartridge = .named d → d.onRead = [] → t.cart = s.cart)
    ∧ ∀ d : Device, s.cfg.extIo = .named d → d.onRead = [] → t.ext = s.ext

/-- R103: no instruction outside its list writes a flag. -/
def Obligations.FlagWriters : Prop :=
  ∀ (i : Instr) (s t : State), i.wellFormed = true → exec i s = .next t → writesFlags (opcode i) (secondByte i) = false →
    t.regs.flags = s.regs.flags

/-- R311: an instruction that is no jump, call, return or restart leaves PC at the instruction after it. -/
def Obligations.ProgramCounterAdvances : Prop :=
  ∀ (i : Instr) (s t : State), i.wellFormed = true → exec i s = .next t → setsPc (opcode i) = false →
    t.regs.pc = s.regs.pc + BitVec.ofNat 16 (encode s.cfg.stopLength i).length

/-- R313, R314: every instruction that completes costs the ticks of its cell. -/
def Obligations.TickCosts : Prop :=
  ∀ (i : Instr) (s t : State), i.wellFormed = true → exec i s = .next t →
    t.out.ticks = expectedTicks (opcode i) (secondByte i) s

/-! ### The step -/

/-- R311, R700 part 4: when no interrupt is due and the step is no idle step, it runs the instruction that the bytes at PC decode to, in
the state after their fetch, and then delivers the ticks. The fetch reads exactly the instruction's bytes. -/
def Obligations.StepRunsTheDecodedInstruction : Prop :=
  ∀ s : State, s.fault = none → interruptDue (beginStep s) = false → idleDue (beginStep s) = false →
    let w := wake (beginStep s)
    let n := instrLength s.cfg.stopLength (readVal s.regs.pc s)
    let f := fetchInstr w
    f.1.length = n
    ∧ (∀ (i : Instr) (rest : List Byte), decode s.cfg.stopLength f.1 = .ok (i, rest) →
        step s = match exec i f.2 with
          | .next t => .next (deliverTicks t)
          | .fault k => .fault k
          | .refused r => .refused r)
    ∧ ((∀ k : Nat, k < n → coreOwned s (s.regs.pc + BitVec.ofNat 16 k) = true) →
        f.2 = w ∧ ∀ k : Nat, k < n → f.1[k]? = some (readVal (s.regs.pc + BitVec.ofNat 16 k) s))

/-- R704, R705: with IME set after the pipeline and a request enabled, the step pushes PC, goes to the vector of the least set line,
clears IME, its pipeline and the halt, and delivers `INT_DISPATCH_TICKS`. -/
def Obligations.InterruptDispatch : Prop :=
  ∀ (s : State) (k : Nat), s.fault = none → (s.irq.imeDelayed.getD s.irq.ime) = true →
    k < 5 → (s.irq.ie.getLsbD k && s.irq.iflag.getLsbD k) = true →
    (∀ j : Nat, j < k → (s.irq.ie.getLsbD j && s.irq.iflag.getLsbD j) = false) →
    ∃ t, step s = .next (deliverTicks t)
      ∧ let p := pushed s.regs.pc (beginStep s)
        t = { p with
              regs := { s.regs with sp := s.regs.sp - 2, pc := BitVec.ofNat 16 (0x40 + 8 * k) }
              irq := { ie := p.irq.ie, iflag := if s.cfg.ifAutoclear then p.irq.iflag &&& ~~~(1#5 <<< k) else p.irq.iflag
                       ime := false, imeDelayed := none, imeRequest := none }
              halted := false
              out := { ticks := s.cfg.intDispatchTicks, dispatched := true, statNote := false, vblankNote := false } }

/-- R706: a halted CPU with nothing pending makes an idle step, with no bus access; with a request pending and no dispatch it wakes, and
the step runs as that of a CPU that is not halted. -/
def Obligations.HaltedSteps : Prop :=
  ∀ s : State, s.fault = none → s.halted = true →
    (pendingLines s = 0 →
      step s
        = .next (deliverTicks
            { s with
              irq := { s.irq with ime := s.irq.imeDelayed.getD s.irq.ime, imeDelayed := s.irq.imeRequest, imeRequest := none }
              out := { ticks := s.cfg.haltIdleTicks, dispatched := false, statNote := false, vblankNote := false } }))
    ∧ (pendingLines s ≠ 0 → (s.irq.imeDelayed.getD s.irq.ime) = false → step s = step { s with halted := false })

/-- R703, R811: an EI or DI executed in one step sets IME at the start of the second step after it, whatever instruction but RETI runs
between, unless that step dispatches; at the start of the step between, IME is what it was. -/
def Obligations.EnableIsDelayedByOneInstruction : Prop :=
  ∀ (s t u : State) (i j : Instr) (enable : Bool), s.fault = none →
    interruptDue (beginStep s) = false → idleDue (beginStep s) = false →
    decode s.cfg.stopLength (fetchInstr (wake (beginStep s))).1 = .ok (i, []) → i = (if enable then .ei else .di) →
    step s = .next t → interruptDue (beginStep t) = false →
    decode t.cfg.stopLength (fetchInstr (wake (beginStep t))).1 = .ok (j, []) → j ≠ .reti →
    step t = .next u →
      t.irq.ime = (beginStep s).irq.ime ∧ (beginStep t).irq.ime = s.irq.imeRequest.getD t.irq.ime
      ∧ u.irq.ime = (beginStep t).irq.ime ∧ (beginStep u).irq.ime = enable

/-- R760: a fault is sticky and changes nothing; the state a faulting step leaves keeps PC, the registers, the storage and the devices, and
holds the fault, which every later step returns. -/
def Obligations.FaultsAreSticky : Prop :=
  (∀ (s : State) (k : Fault), s.fault = some k → step s = .fault k ∧ faultState k s = s)
  ∧ ∀ (s : State) (k : Fault), s.fault = none → step s = .fault k →
      let t := faultState k s
      t.fault = some k ∧ step t = .fault k ∧ t.regs = s.regs ∧ t.irq = (beginStep s).irq ∧ t.mem = s.mem
      ∧ t.timer = s.timer ∧ t.disp = s.disp ∧ t.dma = s.dma ∧ t.bootOverlay = s.bootOverlay ∧ t.cfg = s.cfg

/-- R315, R760, R761: a step is never refused; it faults only by DAA or an undefined opcode under the policy that faults, so under the other
policies it always answers a next state. -/
def Obligations.StepsComplete : Prop :=
  ∀ s : State, s.fault = none →
    (∃ t, step s = .next t)
    ∨ (step s = .fault .daaTableMiss ∧ s.cfg.daaMissPolicy = .fault)
    ∨ ∃ op : Byte, op ∈ [(0xD3 : Byte), 0xDB, 0xDD, 0xE3, 0xE4, 0xEB, 0xEC, 0xED, 0xF4, 0xFC, 0xFD]
        ∧ step s = .fault (.invalidOpcode op) ∧ s.cfg.invalidOpcodePolicy = .fault

/-- The invariant holds after reset: of the state after the default reset, and of every state that `Reset` builds, with collaborators whose
bytes are in canonical form. Which bytes the stores list is the model's (logs 4, 17). -/
def Obligations.InvariantAtReset : Prop :=
  Inv State.reset
  ∧ ∀ (p : Params) (cart : Cart) (ext : Peripherals) (s : State),
      cart.image.within none isCartWindow = true → cart.cells.wf (some 0) = true → ext.cells.wf (some 0) = true →
        resetWith p cart ext = .next s → Inv s

/-- Every step keeps the invariant: the stores stay canonical and in their windows, the accumulators below their periods, the display's
phase within its duration and its mode with its line, and an overlay shows a boot program. -/
def Obligations.StepKeepsInvariant : Prop :=
  ∀ s t : State, Inv s → step s = .next t → Inv t

/-- No step changes the parameters or sets a fault, and the overlay never comes back (R110, R203, R219). -/
def Obligations.ParametersAndOverlayPersist : Prop :=
  ∀ s t : State, step s = .next t →
    t.cfg = s.cfg ∧ t.fault = none ∧ (s.bootOverlay = false → t.bootOverlay = false)

/-- R709: a request bit stays set through every delivery and every instruction that does not store to 0xFF0F, and through a dispatch whose
push does not, but for the bit it clears under `IF_AUTOCLEAR`; a bit already set is only set; enables do not matter. -/
def Obligations.RequestsAreLatched : Prop :=
  (∀ (s : State) (k : Nat), s.irq.iflag.getLsbD k = true → (deliverTicks s).irq.iflag.getLsbD k = true)
  ∧ (∀ (i : Instr) (s t : State), i.wellFormed = true → exec i s = .next t → (∀ x ∈ storesOf i s, x.1 ≠ 0xFF0F) →
      t.irq.iflag = s.irq.iflag)
  ∧ (∀ s : State, s.regs.sp - 1 ≠ 0xFF0F → s.regs.sp - 2 ≠ 0xFF0F →
      (s.cfg.ifAutoclear = false → (takeInterrupt s).irq.iflag = s.irq.iflag)
      ∧ ∀ k : Nat, k ≠ firstLine (pendingLines s) → (takeInterrupt s).irq.iflag.getLsbD k = s.irq.iflag.getLsbD k)
  ∧ (∀ (k : Nat) (i : Interrupts), raiseLine k (raiseLine k i) = raiseLine k i)
  ∧ ∀ (s : State) (ie : Byte) (ime : Bool),
      (deliverTicks { s with irq := { s.irq with ie := ie, ime := ime } }).irq.iflag = (deliverTicks s).irq.iflag

/-! ### The decoder -/

/-- R300, R302, R306, R309: words of each family, written out from the spec's encodings, decode to the instructions they stand for. -/
def Obligations.SampleWordsDecode : Prop :=
  ∀ (sl : StopLength) (rest : List Byte),
    decode sl (0b01111000 :: rest) = .ok (.ldA_B, rest)
    ∧ decode sl (0b00001000 :: 0x34 :: 0x12 :: rest) = .ok (.ldIndA16_SP 0x1234, rest)
    ∧ decode sl (0b11100010 :: rest) = .ok (.ldIndC_A, rest)
    ∧ decode sl (0b11110101 :: rest) = .ok (.pushAF, rest)
    ∧ decode sl (0b10011100 :: rest) = .ok (.sbcA_H, rest)
    ∧ decode sl (0b11101110 :: 0x5A :: rest) = .ok (.xorA_N8 0x5A, rest)
    ∧ decode sl (0b00101001 :: rest) = .ok (.addHL_HL, rest)
    ∧ decode sl (0b11101000 :: 0xFF :: rest) = .ok (.addSP_E8 0xFF, rest)
    ∧ decode sl (0b00011111 :: rest) = .ok (.rra, rest)
    ∧ decode sl (0b11001011 :: 0b00110101 :: rest) = .ok (.swapL, rest)
    ∧ decode sl (0b11001011 :: 0b01111111 :: rest) = .ok (.bit7_A, rest)
    ∧ decode sl (0b11001011 :: 0b10011110 :: rest) = .ok (.res3_IndHL, rest)
    ∧ decode sl (0b00111000 :: 0xFA :: rest) = .ok (.jrC_E8 0xFA, rest)
    ∧ decode sl (0b11010100 :: 0x00 :: 0x40 :: rest) = .ok (.callNC_A16 0x4000, rest)
    ∧ decode sl (0b11101111 :: rest) = .ok (.rst28, rest)
    ∧ decode sl (0b01110110 :: rest) = .ok (.halt, rest)
    ∧ decode sl (0b11010011 :: rest) = .ok (.undefinedD3, rest)

/-- Decoding the encoding of any well-formed instruction gives it back, with every operand, and leaves the bytes after it. -/
def Obligations.DecodeOfEncode : Prop :=
  ∀ (sl : StopLength) (i : Instr) (rest : List Byte), i.wellFormed = true → decode sl (encode sl i ++ rest) = .ok (i, rest)

/-- R312, R315: decoding is total: with as many bytes as the length of the first one, a well-formed instruction comes out and exactly those
bytes are taken, and its encoding is those bytes (but for the byte that STOP ignores, log 8); with fewer, the decoder says so. -/
def Obligations.DecodingIsTotal : Prop :=
  ∀ (sl : StopLength) (op : Byte) (rest : List Byte),
    let n := instrLength sl op
    (n ≤ rest.length + 1 →
      ∃ i : Instr, decode sl (op :: rest) = .ok (i, rest.drop (n - 1)) ∧ i.wellFormed = true
        ∧ (op ≠ 0x10 → encode sl i = (op :: rest).take n) ∧ (op = 0x10 → i = .stop))
    ∧ (rest.length + 1 < n → decode sl (op :: rest) = .error .truncated)

/-! ### The devices -/

/-- R773, R774: what one delivery does to the divider and the counter, and that it touches nothing else. -/
def Obligations.TimerDelivery : Prop :=
  ∀ (t : Nat) (s : State),
    let s' := timerTick t s
    let period := divisor s.timer.tac
    let total := s.timer.timaAcc + t
    let after := counted s.timer.tma (total / period) (s.timer.tima, false)
    s'.timer.div = s.timer.div + BitVec.ofNat 8 ((s.timer.divAcc + t) / 256)
    ∧ s'.timer.divAcc = (s.timer.divAcc + t) % 256
    ∧ (s.timer.tac.getLsbD 2 = false → s'.timer.tima = s.timer.tima ∧ s'.timer.timaAcc = s.timer.timaAcc ∧ s'.irq = s.irq)
    ∧ (s.timer.tac.getLsbD 2 = true →
        s'.timer.tima = after.1 ∧ s'.timer.timaAcc = total % period
        ∧ s'.irq = { s.irq with iflag := s.irq.iflag ||| (if after.2 then 0b00100 else 0) })
    ∧ s'.timer.tma = s.timer.tma ∧ s'.timer.tac = s.timer.tac
    ∧ s' = { s with timer := s'.timer, irq := s'.irq }

/-- R701, R775, R784: no tick is lost or counted twice: two deliveries, one after the other, do what one of their sum does. -/
def Obligations.DeliveriesAdd : Prop :=
  ∀ (a b : Nat) (s : State),
    timerTick b (timerTick a s) = timerTick (a + b) s ∧ displayTick b (displayTick a s) = displayTick (a + b) s

/-- R784, R785: the end of each phase of the display, and the delivery that does not reach it; under `LCD_GATING` with LCDC[7] clear nothing
moves (R782). -/
def Obligations.DisplayPhases : Prop :=
  (∀ (t : Nat) (s : State), s.cfg.lcdGating = true → s.disp.lcdc.getLsbD 7 = false → displayTick t s = s)
  ∧ (∀ (t : Nat) (s : State), s.cfg.lcdGating = false ∨ s.disp.lcdc.getLsbD 7 = true →
      s.disp.phaseTicks + t < s.disp.mode.duration →
      displayTick t s = { s with disp := { s.disp with phaseTicks := s.disp.phaseTicks + t } })
  ∧ (Mode.duration .oamScan = 80 ∧ Mode.duration .transfer = 172 ∧ Mode.duration .hBlank = 204 ∧ Mode.duration .vBlank = 456)
  ∧ ∀ (t : Nat) (s : State), s.cfg.lcdGating = false ∨ s.disp.lcdc.getLsbD 7 = true →
      s.disp.phaseTicks < s.disp.mode.duration → s.disp.phaseTicks + t = s.disp.mode.duration →
      let e : State := { s with disp := { s.disp with phaseTicks := 0 } }
      let up : Byte := s.disp.ly + 1
      let down : Byte := if up = 154 then 0 else up
      let en := s.disp.statEn
      displayTick t s =
        match s.disp.mode with
        | .oamScan => afterPhase .transfer s.disp.ly s.disp.coincidence false false e
        | .transfer => afterPhase .hBlank s.disp.ly s.disp.coincidence (en.getLsbD 0) false e
        | .hBlank =>
          let hit := up == s.disp.lyc
          if up = 144 then afterPhase .vBlank up hit ((hit && en.getLsbD 3) || en.getLsbD 1) true e
          else afterPhase .oamScan up hit ((hit && en.getLsbD 3) || en.getLsbD 2) false e
        | .vBlank =>
          let hit := down == s.disp.lyc
          if down = 0 then afterPhase .oamScan down hit ((hit && en.getLsbD 3) || en.getLsbD 2) false e
          else afterPhase .vBlank down hit (hit && en.getLsbD 3) false e

/-- R787(b), R787(c), R786: from the start of a frame, each delivery of 456 ticks takes the display to the start of the next line; the 154th
returns it to the start, and the v-blank request is made by the delivery that ends line 143 and by no other. -/
def Obligations.DisplayFrame : Prop :=
  ∀ s : State, s.cfg.lcdGating = false ∨ s.disp.lcdc.getLsbD 7 = true →
    ∀ n : Nat, n < 154 → AtLineStart n s.disp →
      let t := displayTick 456 s
      AtLineStart (if n = 153 then 0 else n + 1) t.disp
      ∧ t.irq.iflag.getLsbD 0 = (s.irq.iflag.getLsbD 0 || n == 143)
      ∧ t.out.vblankNote = (s.out.vblankNote || n == 143)

/-! ### Reset and events from outside -/

/-- R117, R711, R800, R801, R802, R803: what `Reset` builds under each profile, with its RAM, when it is refused (R203, U20), and what
`Raise` does. Unconstrained RAM is a free value of its address (log 4), and the registers marked U of BootRom are free values (log 14). -/
def Obligations.ResetAndExternalEvents : Prop :=
  (∀ (p : Params) (cart : Cart) (ext : Peripherals), p.resetProfile = .postBoot →
      ∃ s, resetWith p cart ext = .next s ∧ s.cfg = p ∧ s.cart = cart ∧ s.ext = ext
        ∧ s.regs = { a := 0x01, b := 0x00, c := 0x13, d := 0x00, e := 0xD8, h := 0x01, l := 0x4D
                     flags := ⟨true, false, true, true⟩, sp := 0xFFFE, pc := 0x0100 }
        ∧ s.irq = { ie := 0x00, iflag := 0b00001, ime := false, imeDelayed := none, imeRequest := none }
        ∧ s.halted = false ∧ s.fault = none
        ∧ s.timer = { div := 0xAB, divAcc := 0, tima := 0x00, tma := 0x00, tac := 0, timaAcc := 0 }
        ∧ s.disp = { lcdc := 0x91, statEn := 0, mode := .oamScan, phaseTicks := 0, ly := 0, lyc := 0x00, coincidence := true
                     scy := 0x00, scx := 0x00, bgp := 0xFC, obp0 := 0xFF, obp1 := 0xFF, wy := 0x00, wx := 0x00 }
        ∧ s.dma = 0xFF ∧ s.bootOverlay = false ∧ RamAfterReset p.ramInit s)
  ∧ (∀ (p : Params) (cart : Cart) (ext : Peripherals), p.resetProfile = .bootRom → p.bootRom ≠ none →
      ∃ s, resetWith p cart ext = .next s ∧ s.cfg = p ∧ s.cart = cart ∧ s.ext = ext ∧ s.regs.pc = 0x0000
        ∧ s.irq = { ie := 0x00, iflag := 0, ime := false, imeDelayed := none, imeRequest := none }
        ∧ s.halted = false ∧ s.fault = none
        ∧ s.timer = { div := 0x00, divAcc := 0, tima := 0x00, tma := 0x00, tac := 0, timaAcc := 0 }
        ∧ s.disp = { lcdc := 0x00, statEn := 0, mode := .oamScan, phaseTicks := 0, ly := 0, lyc := 0x00, coincidence := true
                     scy := 0x00, scx := 0x00, bgp := 0x00, obp0 := 0x00, obp1 := 0x00, wy := 0x00, wx := 0x00 }
        ∧ s.dma = 0x00 ∧ s.bootOverlay = true ∧ RamAfterReset p.ramInit s)
  ∧ (∀ (p : Params) (cart : Cart) (ext : Peripherals), p.resetProfile = .bootRom → p.bootRom = none →
      resetWith p cart ext = .refused .bootRomAbsent)
  ∧ ∀ (bit : Nat) (s : State),
      (bit = 3 → raise bit s = .next { s with irq := { s.irq with iflag := s.irq.iflag ||| 0b01000 } })
      ∧ (bit = 4 → raise bit s = .next { s with irq := { s.irq with iflag := s.irq.iflag ||| 0b10000 } })
      ∧ (bit ≠ 3 → bit ≠ 4 → raise bit s = .refused .raiseLine)

/-! ### The boot overlay and the cartridge -/

/-- R203, R204, R206: the overlay's addresses read as the boot program and a read of them changes nothing, while the overlay is up; the two
windows of the cartridge read as the provider's answer, and a store there, under an overlay too, changes nothing but the provider's state.
The answers and states are the model's: a history with free answers of an unnamed provider, an image of the flat one (log 2), and cells of
a named one (log 17). An overlay with no boot program shows the cartridge (log 12). -/
def Obligations.CartridgeAndBootOverlay : Prop :=
  ∀ (s : State) (a : Word) (v : Byte),
    (∀ (rom : Vector Byte 256) (h : a.toNat < 256), s.bootOverlay = true → s.cfg.bootRom = some rom →
      readVal a s = rom[a.toNat] ∧ afterRead a s = s)
    ∧ (CartAddress a → (s.bootOverlay = true → s.cfg.bootRom ≠ none → 0xFF < a.toNat) →
        readVal a s
          = match s.cfg.cartridge with
            | .unnamed => Config.cartAnswer s.cart.events a
            | .flat _ => (s.cart.image.read a.toNat).getD (Config.cartAnswer s.cart.events a)
            | .named d => deviceAnswer d s.cart.cells a)
    ∧ (CartAddress a →
        memWrite a v s
          = { s with
              cart := match s.cfg.cartridge with
                | .unnamed => cartLogged (.write a v) s.cart
                | .flat hasRam =>
                  if hasRam = true ∧ 0xA000 ≤ a.toNat then { s.cart with image := s.cart.image.write a.toNat v } else s.cart
                | .named d => { s.cart with cells := deviceStores d.onWrite a v s.cart.cells } })
    ∧ (s.cfg.cartridge = .flat true → 0xA000 ≤ a.toNat → a.toNat ≤ 0xBFFF → readVal a (memWrite a v s) = v)
end

