-- ==== Sys2Proof/Laws/Memory.lean ====
section
/-! SUPPORT. The byte store: a read after a write, and the canonical form, which every write keeps. -/

namespace Sys2Proof.Machine

@[simp] theorem Memory.read_nil (k : Nat) : Memory.read [] k = none := rfl

/-- A read after a write gives the byte written at its address, and leaves every other address alone. -/
theorem Memory.read_write (m : Memory) (k j : Nat) (v : Byte) :
    (m.write k v).read j = if k = j then some v else m.read j := by
  induction m with
  | nil => simp [Memory.write, Memory.read]
  | cons cell m ih =>
    obtain ⟨b, w⟩ := cell
    simp only [Memory.write]
    split
    · simp [Memory.read]
    · split
      · subst_vars
        simp only [Memory.read]
        split <;> simp_all
      · simp only [Memory.read, ih]
        split <;> split <;> simp_all

@[simp] theorem Memory.read_write_same (m : Memory) (k : Nat) (v : Byte) : (m.write k v).read k = some v := by
  simp [Memory.read_write]

theorem Memory.read_write_other (m : Memory) {k j : Nat} (v : Byte) (h : k ≠ j) : (m.write k v).read j = m.read j := by
  simp [Memory.read_write, h]

theorem Memory.read_erase (m : Memory) (k j : Nat) : (m.erase k).read j = if k = j then none else m.read j := by
  induction m with
  | nil => simp [Memory.erase, Memory.read]
  | cons cell m ih =>
    obtain ⟨b, w⟩ := cell
    simp only [Memory.erase, List.filter_cons] at *
    by_cases hb : b = k
    · simp only [hb, bne_self_eq_false, Bool.false_eq_true, if_false, ih, Memory.read]
      split <;> simp_all
    · simp only [bne_iff_ne, ne_eq, hb, not_false_eq_true, if_true, Memory.read, ih]
      split <;> split <;> simp_all

/-- What an address reads as after a byte is put at one, where `d` is what it reads as when nothing is listed there. -/
theorem Memory.getD_read_put (fill : Option Byte) (m : Memory) (k j : Nat) (v d : Byte) (hd : ∀ w, fill = some w → d = w) :
    ((m.put fill k v).read j).getD d = if k = j then v else (m.read j).getD d := by
  unfold Memory.put
  split
  · rename_i h
    rw [Memory.read_erase]
    split
    · simp [hd v h]
    · rfl
  · rw [Memory.read_write]
    split <;> rfl

/-- Every cell of a memory after a write has a property that the new cell and all the old ones have. -/
theorem Memory.all_write (p : Host.Cell → Bool) (m : Memory) (k : Nat) (v : Byte) (hk : p (k, v) = true)
    (hm : m.all p = true) : (m.write k v).all p = true := by
  induction m with
  | nil => simpa [Memory.write] using hk
  | cons cell m ih =>
    obtain ⟨b, w⟩ := cell
    simp only [List.all_cons, Bool.and_eq_true] at hm
    simp only [Memory.write]
    split
    · simpa [hk, hm.1] using hm.2
    · split
      · simpa [hk] using hm.2
      · simpa [hm.1] using ih hm.2

theorem Memory.all_erase (p : Host.Cell → Bool) (m : Memory) (k : Nat) (hm : m.all p = true) : (m.erase k).all p = true := by
  rw [List.all_eq_true] at *
  intro x hx
  exact hm x (List.mem_of_mem_filter hx)

theorem Memory.rising_erase (m : Memory) (k : Nat) (h : m.rising = true) : (m.erase k).rising = true := by
  induction m with
  | nil => rfl
  | cons cell m ih =>
    obtain ⟨b, w⟩ := cell
    simp only [Memory.rising, Bool.and_eq_true] at h
    have hm := Memory.all_erase _ m k h.1
    have ih := ih h.2
    simp only [Memory.erase, List.filter_cons] at *
    split
    · simp only [Memory.rising, Bool.and_eq_true]
      exact ⟨hm, ih⟩
    · exact ih

theorem Memory.rising_write (m : Memory) (k : Nat) (v : Byte) (h : m.rising = true) : (m.write k v).rising = true := by
  induction m with
  | nil => rfl
  | cons cell m ih =>
    obtain ⟨b, w⟩ := cell
    simp only [Memory.rising, Bool.and_eq_true] at h
    simp only [Memory.write]
    split
    · rename_i hkb
      have hall : (List.all m fun cell => decide (k < cell.1)) = true := by
        rw [List.all_eq_true] at *
        intro x hx
        have := h.1 x hx
        simp only [decide_eq_true_eq] at *
        omega
      simp [Memory.rising, hkb, h.1, h.2, hall]
    · split
      · subst_vars
        simp [Memory.rising, h.1, h.2]
      · rename_i h1 h2
        simp only [Memory.rising, Bool.and_eq_true]
        exact ⟨Memory.all_write _ m k v (by simp; omega) h.1, ih h.2⟩

/-- A byte put at an address keeps the canonical form. -/
theorem Memory.wf_put (fill : Option Byte) (m : Memory) (k : Nat) (v : Byte) (h : m.wf fill = true) :
    (m.put fill k v).wf fill = true := by
  simp only [Memory.wf, Bool.and_eq_true, Memory.put] at *
  split
  · exact ⟨Memory.rising_erase m k h.1, Memory.all_erase _ m k h.2⟩
  · rename_i hv
    exact ⟨Memory.rising_write m k v h.1, Memory.all_write _ m k v (by simpa using hv) h.2⟩

/-- A byte put at an admitted address keeps a memory within its addresses. -/
theorem Memory.within_put (fill : Option Byte) (ok : Nat → Bool) (m : Memory) (k : Nat) (v : Byte) (hk : ok k = true)
    (h : m.within fill ok = true) : (m.put fill k v).within fill ok = true := by
  simp only [Memory.within, Bool.and_eq_true] at *
  refine ⟨Memory.wf_put fill m k v h.1, ?_⟩
  unfold Memory.put
  split
  · exact Memory.all_erase _ m k h.2
  · exact Memory.all_write _ m k v hk h.2

/-- A write to a memory whose unlisted addresses hold no byte is a byte put there. -/
theorem Memory.put_none (m : Memory) (k : Nat) (v : Byte) : m.put none k v = m.write k v := rfl

/-- Equal canonical memories are equal lists: a rising memory is found back from what its addresses read as. -/
theorem Memory.ext_of_read (m m' : Memory) (h : m.rising = true) (h' : m'.rising = true) (hr : ∀ k, m.read k = m'.read k) :
    m = m' := by
  have low : ∀ (m : Memory) (b k : Nat), (m.all fun cell => decide (b < cell.1)) = true → k ≤ b → m.read k = none := by
    intro m
    induction m with
    | nil => intros; rfl
    | cons cell m ih =>
      intro b k hm hk
      simp only [List.all_cons, Bool.and_eq_true, decide_eq_true_eq] at hm
      have hne : cell.1 ≠ k := by omega
      simp only [Memory.read, hne, if_false]
      exact ih b k hm.2 hk
  induction m generalizing m' with
  | nil =>
    cases m' with
    | nil => rfl
    | cons c m' => have := hr c.1; simp [Memory.read] at this
  | cons c m ih =>
    cases m' with
    | nil => have := hr c.1; simp [Memory.read] at this
    | cons c' m' =>
      obtain ⟨b, v⟩ := c
      obtain ⟨b', v'⟩ := c'
      simp only [Memory.rising, Bool.and_eq_true] at h h'
      have hb : b = b' := by
        rcases Nat.lt_trichotomy b b' with hlt | heq | hgt
        · have := hr b
          have hne : b' ≠ b := by omega
          simp [Memory.read, hne, low m' b' b h'.1 (by omega)] at this
        · exact heq
        · have := hr b'
          have hne : b ≠ b' := by omega
          simp [Memory.read, hne, low m b b' h.1 (by omega)] at this
      subst hb
      have hv : v = v' := by have := hr b; simpa [Memory.read] using this
      subst hv
      rw [ih m' h.2 h'.2 (fun k => ?_)]
      have := hr k
      simp only [Memory.read] at this
      split at this
      · rename_i hk
        rw [low m b k h.1 (by omega), low m' b k h'.1 (by omega)]
      · exact this

/-- The memory of the state after reset is canonical. -/
theorem reset_mem_wf : State.reset.mem.wf (ramFill State.reset.cfg.ramInit) = true := rfl

end Sys2Proof.Machine
end

