-- ==== Sys2Proof/Laws/State.lean ====
section
/-! SUPPORT. One lemma per field per update of the state, so that no later proof unfolds a record update. -/

namespace Sys2Proof.Machine

/-! ### `State.setA` -/

@[simp] theorem State.setA_cfg (v : Byte) (s : State) : (s.setA v).cfg = s.cfg := rfl
@[simp] theorem State.setA_regs (v : Byte) (s : State) : (s.setA v).regs = { s.regs with a := v } := rfl
@[simp] theorem State.setA_irq (v : Byte) (s : State) : (s.setA v).irq = s.irq := rfl
@[simp] theorem State.setA_halted (v : Byte) (s : State) : (s.setA v).halted = s.halted := rfl
@[simp] theorem State.setA_fault (v : Byte) (s : State) : (s.setA v).fault = s.fault := rfl
@[simp] theorem State.setA_timer (v : Byte) (s : State) : (s.setA v).timer = s.timer := rfl
@[simp] theorem State.setA_disp (v : Byte) (s : State) : (s.setA v).disp = s.disp := rfl
@[simp] theorem State.setA_dma (v : Byte) (s : State) : (s.setA v).dma = s.dma := rfl
@[simp] theorem State.setA_bootOverlay (v : Byte) (s : State) : (s.setA v).bootOverlay = s.bootOverlay := rfl
@[simp] theorem State.setA_mem (v : Byte) (s : State) : (s.setA v).mem = s.mem := rfl
@[simp] theorem State.setA_cart (v : Byte) (s : State) : (s.setA v).cart = s.cart := rfl
@[simp] theorem State.setA_ext (v : Byte) (s : State) : (s.setA v).ext = s.ext := rfl
@[simp] theorem State.setA_out (v : Byte) (s : State) : (s.setA v).out = s.out := rfl

/-! ### `State.setFlags` -/

@[simp] theorem State.setFlags_cfg (f : Flags) (s : State) : (s.setFlags f).cfg = s.cfg := rfl
@[simp] theorem State.setFlags_regs (f : Flags) (s : State) : (s.setFlags f).regs = { s.regs with flags := f } := rfl
@[simp] theorem State.setFlags_irq (f : Flags) (s : State) : (s.setFlags f).irq = s.irq := rfl
@[simp] theorem State.setFlags_halted (f : Flags) (s : State) : (s.setFlags f).halted = s.halted := rfl
@[simp] theorem State.setFlags_fault (f : Flags) (s : State) : (s.setFlags f).fault = s.fault := rfl
@[simp] theorem State.setFlags_timer (f : Flags) (s : State) : (s.setFlags f).timer = s.timer := rfl
@[simp] theorem State.setFlags_disp (f : Flags) (s : State) : (s.setFlags f).disp = s.disp := rfl
@[simp] theorem State.setFlags_dma (f : Flags) (s : State) : (s.setFlags f).dma = s.dma := rfl
@[simp] theorem State.setFlags_bootOverlay (f : Flags) (s : State) : (s.setFlags f).bootOverlay = s.bootOverlay := rfl
@[simp] theorem State.setFlags_mem (f : Flags) (s : State) : (s.setFlags f).mem = s.mem := rfl
@[simp] theorem State.setFlags_cart (f : Flags) (s : State) : (s.setFlags f).cart = s.cart := rfl
@[simp] theorem State.setFlags_ext (f : Flags) (s : State) : (s.setFlags f).ext = s.ext := rfl
@[simp] theorem State.setFlags_out (f : Flags) (s : State) : (s.setFlags f).out = s.out := rfl

/-! ### `State.setSp` -/

@[simp] theorem State.setSp_cfg (w : Word) (s : State) : (s.setSp w).cfg = s.cfg := rfl
@[simp] theorem State.setSp_regs (w : Word) (s : State) : (s.setSp w).regs = { s.regs with sp := w } := rfl
@[simp] theorem State.setSp_irq (w : Word) (s : State) : (s.setSp w).irq = s.irq := rfl
@[simp] theorem State.setSp_halted (w : Word) (s : State) : (s.setSp w).halted = s.halted := rfl
@[simp] theorem State.setSp_fault (w : Word) (s : State) : (s.setSp w).fault = s.fault := rfl
@[simp] theorem State.setSp_timer (w : Word) (s : State) : (s.setSp w).timer = s.timer := rfl
@[simp] theorem State.setSp_disp (w : Word) (s : State) : (s.setSp w).disp = s.disp := rfl
@[simp] theorem State.setSp_dma (w : Word) (s : State) : (s.setSp w).dma = s.dma := rfl
@[simp] theorem State.setSp_bootOverlay (w : Word) (s : State) : (s.setSp w).bootOverlay = s.bootOverlay := rfl
@[simp] theorem State.setSp_mem (w : Word) (s : State) : (s.setSp w).mem = s.mem := rfl
@[simp] theorem State.setSp_cart (w : Word) (s : State) : (s.setSp w).cart = s.cart := rfl
@[simp] theorem State.setSp_ext (w : Word) (s : State) : (s.setSp w).ext = s.ext := rfl
@[simp] theorem State.setSp_out (w : Word) (s : State) : (s.setSp w).out = s.out := rfl

/-! ### `State.setPc` -/

@[simp] theorem State.setPc_cfg (w : Word) (s : State) : (s.setPc w).cfg = s.cfg := rfl
@[simp] theorem State.setPc_regs (w : Word) (s : State) : (s.setPc w).regs = { s.regs with pc := w } := rfl
@[simp] theorem State.setPc_irq (w : Word) (s : State) : (s.setPc w).irq = s.irq := rfl
@[simp] theorem State.setPc_halted (w : Word) (s : State) : (s.setPc w).halted = s.halted := rfl
@[simp] theorem State.setPc_fault (w : Word) (s : State) : (s.setPc w).fault = s.fault := rfl
@[simp] theorem State.setPc_timer (w : Word) (s : State) : (s.setPc w).timer = s.timer := rfl
@[simp] theorem State.setPc_disp (w : Word) (s : State) : (s.setPc w).disp = s.disp := rfl
@[simp] theorem State.setPc_dma (w : Word) (s : State) : (s.setPc w).dma = s.dma := rfl
@[simp] theorem State.setPc_bootOverlay (w : Word) (s : State) : (s.setPc w).bootOverlay = s.bootOverlay := rfl
@[simp] theorem State.setPc_mem (w : Word) (s : State) : (s.setPc w).mem = s.mem := rfl
@[simp] theorem State.setPc_cart (w : Word) (s : State) : (s.setPc w).cart = s.cart := rfl
@[simp] theorem State.setPc_ext (w : Word) (s : State) : (s.setPc w).ext = s.ext := rfl
@[simp] theorem State.setPc_out (w : Word) (s : State) : (s.setPc w).out = s.out := rfl

/-! ### `State.setHl` -/

@[simp] theorem State.setHl_cfg (w : Word) (s : State) : (s.setHl w).cfg = s.cfg := rfl
@[simp] theorem State.setHl_regs (w : Word) (s : State) : (s.setHl w).regs = { s.regs with h := hi8 w, l := lo8 w } := rfl
@[simp] theorem State.setHl_irq (w : Word) (s : State) : (s.setHl w).irq = s.irq := rfl
@[simp] theorem State.setHl_halted (w : Word) (s : State) : (s.setHl w).halted = s.halted := rfl
@[simp] theorem State.setHl_fault (w : Word) (s : State) : (s.setHl w).fault = s.fault := rfl
@[simp] theorem State.setHl_timer (w : Word) (s : State) : (s.setHl w).timer = s.timer := rfl
@[simp] theorem State.setHl_disp (w : Word) (s : State) : (s.setHl w).disp = s.disp := rfl
@[simp] theorem State.setHl_dma (w : Word) (s : State) : (s.setHl w).dma = s.dma := rfl
@[simp] theorem State.setHl_bootOverlay (w : Word) (s : State) : (s.setHl w).bootOverlay = s.bootOverlay := rfl
@[simp] theorem State.setHl_mem (w : Word) (s : State) : (s.setHl w).mem = s.mem := rfl
@[simp] theorem State.setHl_cart (w : Word) (s : State) : (s.setHl w).cart = s.cart := rfl
@[simp] theorem State.setHl_ext (w : Word) (s : State) : (s.setHl w).ext = s.ext := rfl
@[simp] theorem State.setHl_out (w : Word) (s : State) : (s.setHl w).out = s.out := rfl

/-! ### `retire` -/

@[simp] theorem retire_cfg (n k : Nat) (s : State) : (retire n k s).cfg = s.cfg := rfl
@[simp] theorem retire_regs (n k : Nat) (s : State) : (retire n k s).regs = { s.regs with pc := s.regs.pc + BitVec.ofNat 16 n } := rfl
@[simp] theorem retire_irq (n k : Nat) (s : State) : (retire n k s).irq = s.irq := rfl
@[simp] theorem retire_halted (n k : Nat) (s : State) : (retire n k s).halted = s.halted := rfl
@[simp] theorem retire_fault (n k : Nat) (s : State) : (retire n k s).fault = s.fault := rfl
@[simp] theorem retire_timer (n k : Nat) (s : State) : (retire n k s).timer = s.timer := rfl
@[simp] theorem retire_disp (n k : Nat) (s : State) : (retire n k s).disp = s.disp := rfl
@[simp] theorem retire_dma (n k : Nat) (s : State) : (retire n k s).dma = s.dma := rfl
@[simp] theorem retire_bootOverlay (n k : Nat) (s : State) : (retire n k s).bootOverlay = s.bootOverlay := rfl
@[simp] theorem retire_mem (n k : Nat) (s : State) : (retire n k s).mem = s.mem := rfl
@[simp] theorem retire_cart (n k : Nat) (s : State) : (retire n k s).cart = s.cart := rfl
@[simp] theorem retire_ext (n k : Nat) (s : State) : (retire n k s).ext = s.ext := rfl
@[simp] theorem retire_out (n k : Nat) (s : State) : (retire n k s).out = { s.out with ticks := k } := rfl

/-! ### `jumpTo` -/

@[simp] theorem jumpTo_cfg (w : Word) (k : Nat) (s : State) : (jumpTo w k s).cfg = s.cfg := rfl
@[simp] theorem jumpTo_regs (w : Word) (k : Nat) (s : State) : (jumpTo w k s).regs = { s.regs with pc := w } := rfl
@[simp] theorem jumpTo_irq (w : Word) (k : Nat) (s : State) : (jumpTo w k s).irq = s.irq := rfl
@[simp] theorem jumpTo_halted (w : Word) (k : Nat) (s : State) : (jumpTo w k s).halted = s.halted := rfl
@[simp] theorem jumpTo_fault (w : Word) (k : Nat) (s : State) : (jumpTo w k s).fault = s.fault := rfl
@[simp] theorem jumpTo_timer (w : Word) (k : Nat) (s : State) : (jumpTo w k s).timer = s.timer := rfl
@[simp] theorem jumpTo_disp (w : Word) (k : Nat) (s : State) : (jumpTo w k s).disp = s.disp := rfl
@[simp] theorem jumpTo_dma (w : Word) (k : Nat) (s : State) : (jumpTo w k s).dma = s.dma := rfl
@[simp] theorem jumpTo_bootOverlay (w : Word) (k : Nat) (s : State) : (jumpTo w k s).bootOverlay = s.bootOverlay := rfl
@[simp] theorem jumpTo_mem (w : Word) (k : Nat) (s : State) : (jumpTo w k s).mem = s.mem := rfl
@[simp] theorem jumpTo_cart (w : Word) (k : Nat) (s : State) : (jumpTo w k s).cart = s.cart := rfl
@[simp] theorem jumpTo_ext (w : Word) (k : Nat) (s : State) : (jumpTo w k s).ext = s.ext := rfl
@[simp] theorem jumpTo_out (w : Word) (k : Nat) (s : State) : (jumpTo w k s).out = { s.out with ticks := k } := rfl

/-! ### `logCart` -/

@[simp] theorem logCart_cfg (e : BusEvent) (s : State) : (logCart e s).cfg = s.cfg := rfl
@[simp] theorem logCart_regs (e : BusEvent) (s : State) : (logCart e s).regs = s.regs := rfl
@[simp] theorem logCart_irq (e : BusEvent) (s : State) : (logCart e s).irq = s.irq := rfl
@[simp] theorem logCart_halted (e : BusEvent) (s : State) : (logCart e s).halted = s.halted := rfl
@[simp] theorem logCart_fault (e : BusEvent) (s : State) : (logCart e s).fault = s.fault := rfl
@[simp] theorem logCart_timer (e : BusEvent) (s : State) : (logCart e s).timer = s.timer := rfl
@[simp] theorem logCart_disp (e : BusEvent) (s : State) : (logCart e s).disp = s.disp := rfl
@[simp] theorem logCart_dma (e : BusEvent) (s : State) : (logCart e s).dma = s.dma := rfl
@[simp] theorem logCart_bootOverlay (e : BusEvent) (s : State) : (logCart e s).bootOverlay = s.bootOverlay := rfl
@[simp] theorem logCart_mem (e : BusEvent) (s : State) : (logCart e s).mem = s.mem := rfl
@[simp] theorem logCart_cart (e : BusEvent) (s : State) : (logCart e s).cart = { s.cart with events := e :: s.cart.events } := rfl
@[simp] theorem logCart_ext (e : BusEvent) (s : State) : (logCart e s).ext = s.ext := rfl
@[simp] theorem logCart_out (e : BusEvent) (s : State) : (logCart e s).out = s.out := rfl

/-! ### `logExt` -/

@[simp] theorem logExt_cfg (e : BusEvent) (s : State) : (logExt e s).cfg = s.cfg := rfl
@[simp] theorem logExt_regs (e : BusEvent) (s : State) : (logExt e s).regs = s.regs := rfl
@[simp] theorem logExt_irq (e : BusEvent) (s : State) : (logExt e s).irq = s.irq := rfl
@[simp] theorem logExt_halted (e : BusEvent) (s : State) : (logExt e s).halted = s.halted := rfl
@[simp] theorem logExt_fault (e : BusEvent) (s : State) : (logExt e s).fault = s.fault := rfl
@[simp] theorem logExt_timer (e : BusEvent) (s : State) : (logExt e s).timer = s.timer := rfl
@[simp] theorem logExt_disp (e : BusEvent) (s : State) : (logExt e s).disp = s.disp := rfl
@[simp] theorem logExt_dma (e : BusEvent) (s : State) : (logExt e s).dma = s.dma := rfl
@[simp] theorem logExt_bootOverlay (e : BusEvent) (s : State) : (logExt e s).bootOverlay = s.bootOverlay := rfl
@[simp] theorem logExt_mem (e : BusEvent) (s : State) : (logExt e s).mem = s.mem := rfl
@[simp] theorem logExt_cart (e : BusEvent) (s : State) : (logExt e s).cart = s.cart := rfl
@[simp] theorem logExt_ext (e : BusEvent) (s : State) : (logExt e s).ext = { s.ext with events := e :: s.ext.events } := rfl
@[simp] theorem logExt_out (e : BusEvent) (s : State) : (logExt e s).out = s.out := rfl

/-! ### `runCart` -/

@[simp] theorem runCart_cfg (l : List DeviceStore) (a : Word) (v : Byte) (s : State) : (runCart l a v s).cfg = s.cfg := rfl
@[simp] theorem runCart_regs (l : List DeviceStore) (a : Word) (v : Byte) (s : State) : (runCart l a v s).regs = s.regs := rfl
@[simp] theorem runCart_irq (l : List DeviceStore) (a : Word) (v : Byte) (s : State) : (runCart l a v s).irq = s.irq := rfl
@[simp] theorem runCart_halted (l : List DeviceStore) (a : Word) (v : Byte) (s : State) : (runCart l a v s).halted = s.halted := rfl
@[simp] theorem runCart_fault (l : List DeviceStore) (a : Word) (v : Byte) (s : State) : (runCart l a v s).fault = s.fault := rfl
@[simp] theorem runCart_timer (l : List DeviceStore) (a : Word) (v : Byte) (s : State) : (runCart l a v s).timer = s.timer := rfl
@[simp] theorem runCart_disp (l : List DeviceStore) (a : Word) (v : Byte) (s : State) : (runCart l a v s).disp = s.disp := rfl
@[simp] theorem runCart_dma (l : List DeviceStore) (a : Word) (v : Byte) (s : State) : (runCart l a v s).dma = s.dma := rfl
@[simp] theorem runCart_bootOverlay (l : List DeviceStore) (a : Word) (v : Byte) (s : State)
    : (runCart l a v s).bootOverlay = s.bootOverlay := rfl
@[simp] theorem runCart_mem (l : List DeviceStore) (a : Word) (v : Byte) (s : State) : (runCart l a v s).mem = s.mem := rfl
@[simp] theorem runCart_cart (l : List DeviceStore) (a : Word) (v : Byte) (s : State)
    : (runCart l a v s).cart = { s.cart with cells := deviceStores l a v s.cart.cells } := rfl
@[simp] theorem runCart_ext (l : List DeviceStore) (a : Word) (v : Byte) (s : State) : (runCart l a v s).ext = s.ext := rfl
@[simp] theorem runCart_out (l : List DeviceStore) (a : Word) (v : Byte) (s : State) : (runCart l a v s).out = s.out := rfl

/-! ### `runExt` -/

@[simp] theorem runExt_cfg (l : List DeviceStore) (a : Word) (v : Byte) (s : State) : (runExt l a v s).cfg = s.cfg := rfl
@[simp] theorem runExt_regs (l : List DeviceStore) (a : Word) (v : Byte) (s : State) : (runExt l a v s).regs = s.regs := rfl
@[simp] theorem runExt_irq (l : List DeviceStore) (a : Word) (v : Byte) (s : State) : (runExt l a v s).irq = s.irq := rfl
@[simp] theorem runExt_halted (l : List DeviceStore) (a : Word) (v : Byte) (s : State) : (runExt l a v s).halted = s.halted := rfl
@[simp] theorem runExt_fault (l : List DeviceStore) (a : Word) (v : Byte) (s : State) : (runExt l a v s).fault = s.fault := rfl
@[simp] theorem runExt_timer (l : List DeviceStore) (a : Word) (v : Byte) (s : State) : (runExt l a v s).timer = s.timer := rfl
@[simp] theorem runExt_disp (l : List DeviceStore) (a : Word) (v : Byte) (s : State) : (runExt l a v s).disp = s.disp := rfl
@[simp] theorem runExt_dma (l : List DeviceStore) (a : Word) (v : Byte) (s : State) : (runExt l a v s).dma = s.dma := rfl
@[simp] theorem runExt_bootOverlay (l : List DeviceStore) (a : Word) (v : Byte) (s : State)
    : (runExt l a v s).bootOverlay = s.bootOverlay := rfl
@[simp] theorem runExt_mem (l : List DeviceStore) (a : Word) (v : Byte) (s : State) : (runExt l a v s).mem = s.mem := rfl
@[simp] theorem runExt_cart (l : List DeviceStore) (a : Word) (v : Byte) (s : State) : (runExt l a v s).cart = s.cart := rfl
@[simp] theorem runExt_ext (l : List DeviceStore) (a : Word) (v : Byte) (s : State)
    : (runExt l a v s).ext = { s.ext with cells := deviceStores l a v s.ext.cells } := rfl
@[simp] theorem runExt_out (l : List DeviceStore) (a : Word) (v : Byte) (s : State) : (runExt l a v s).out = s.out := rfl

/-! ### `ramWrite` -/

@[simp] theorem ramWrite_cfg (k : Nat) (v : Byte) (s : State) : (ramWrite k v s).cfg = s.cfg := rfl
@[simp] theorem ramWrite_regs (k : Nat) (v : Byte) (s : State) : (ramWrite k v s).regs = s.regs := rfl
@[simp] theorem ramWrite_irq (k : Nat) (v : Byte) (s : State) : (ramWrite k v s).irq = s.irq := rfl
@[simp] theorem ramWrite_halted (k : Nat) (v : Byte) (s : State) : (ramWrite k v s).halted = s.halted := rfl
@[simp] theorem ramWrite_fault (k : Nat) (v : Byte) (s : State) : (ramWrite k v s).fault = s.fault := rfl
@[simp] theorem ramWrite_timer (k : Nat) (v : Byte) (s : State) : (ramWrite k v s).timer = s.timer := rfl
@[simp] theorem ramWrite_disp (k : Nat) (v : Byte) (s : State) : (ramWrite k v s).disp = s.disp := rfl
@[simp] theorem ramWrite_dma (k : Nat) (v : Byte) (s : State) : (ramWrite k v s).dma = s.dma := rfl
@[simp] theorem ramWrite_bootOverlay (k : Nat) (v : Byte) (s : State) : (ramWrite k v s).bootOverlay = s.bootOverlay := rfl
@[simp] theorem ramWrite_mem (k : Nat) (v : Byte) (s : State) : (ramWrite k v s).mem = s.mem.put (ramFill s.cfg.ramInit) k v := rfl
@[simp] theorem ramWrite_cart (k : Nat) (v : Byte) (s : State) : (ramWrite k v s).cart = s.cart := rfl
@[simp] theorem ramWrite_ext (k : Nat) (v : Byte) (s : State) : (ramWrite k v s).ext = s.ext := rfl
@[simp] theorem ramWrite_out (k : Nat) (v : Byte) (s : State) : (ramWrite k v s).out = s.out := rfl

/-! ### `setMode` -/

@[simp] theorem setMode_cfg (m : Mode) (s : State) : (setMode m s).cfg = s.cfg := rfl
@[simp] theorem setMode_regs (m : Mode) (s : State) : (setMode m s).regs = s.regs := rfl
@[simp] theorem setMode_irq (m : Mode) (s : State) : (setMode m s).irq = s.irq := rfl
@[simp] theorem setMode_halted (m : Mode) (s : State) : (setMode m s).halted = s.halted := rfl
@[simp] theorem setMode_fault (m : Mode) (s : State) : (setMode m s).fault = s.fault := rfl
@[simp] theorem setMode_timer (m : Mode) (s : State) : (setMode m s).timer = s.timer := rfl
@[simp] theorem setMode_disp (m : Mode) (s : State) : (setMode m s).disp = { s.disp with mode := m } := rfl
@[simp] theorem setMode_dma (m : Mode) (s : State) : (setMode m s).dma = s.dma := rfl
@[simp] theorem setMode_bootOverlay (m : Mode) (s : State) : (setMode m s).bootOverlay = s.bootOverlay := rfl
@[simp] theorem setMode_mem (m : Mode) (s : State) : (setMode m s).mem = s.mem := rfl
@[simp] theorem setMode_cart (m : Mode) (s : State) : (setMode m s).cart = s.cart := rfl
@[simp] theorem setMode_ext (m : Mode) (s : State) : (setMode m s).ext = s.ext := rfl
@[simp] theorem setMode_out (m : Mode) (s : State) : (setMode m s).out = s.out := rfl

/-! ### `raiseStat` -/

@[simp] theorem raiseStat_cfg (s : State) : (raiseStat s).cfg = s.cfg := rfl
@[simp] theorem raiseStat_regs (s : State) : (raiseStat s).regs = s.regs := rfl
@[simp] theorem raiseStat_irq (s : State) : (raiseStat s).irq = raiseLine 1 s.irq := rfl
@[simp] theorem raiseStat_halted (s : State) : (raiseStat s).halted = s.halted := rfl
@[simp] theorem raiseStat_fault (s : State) : (raiseStat s).fault = s.fault := rfl
@[simp] theorem raiseStat_timer (s : State) : (raiseStat s).timer = s.timer := rfl
@[simp] theorem raiseStat_disp (s : State) : (raiseStat s).disp = s.disp := rfl
@[simp] theorem raiseStat_dma (s : State) : (raiseStat s).dma = s.dma := rfl
@[simp] theorem raiseStat_bootOverlay (s : State) : (raiseStat s).bootOverlay = s.bootOverlay := rfl
@[simp] theorem raiseStat_mem (s : State) : (raiseStat s).mem = s.mem := rfl
@[simp] theorem raiseStat_cart (s : State) : (raiseStat s).cart = s.cart := rfl
@[simp] theorem raiseStat_ext (s : State) : (raiseStat s).ext = s.ext := rfl
@[simp] theorem raiseStat_out (s : State) : (raiseStat s).out = { s.out with statNote := true } := rfl

/-! ### `raiseVblank` -/

@[simp] theorem raiseVblank_cfg (s : State) : (raiseVblank s).cfg = s.cfg := rfl
@[simp] theorem raiseVblank_regs (s : State) : (raiseVblank s).regs = s.regs := rfl
@[simp] theorem raiseVblank_irq (s : State) : (raiseVblank s).irq = raiseLine 0 s.irq := rfl
@[simp] theorem raiseVblank_halted (s : State) : (raiseVblank s).halted = s.halted := rfl
@[simp] theorem raiseVblank_fault (s : State) : (raiseVblank s).fault = s.fault := rfl
@[simp] theorem raiseVblank_timer (s : State) : (raiseVblank s).timer = s.timer := rfl
@[simp] theorem raiseVblank_disp (s : State) : (raiseVblank s).disp = s.disp := rfl
@[simp] theorem raiseVblank_dma (s : State) : (raiseVblank s).dma = s.dma := rfl
@[simp] theorem raiseVblank_bootOverlay (s : State) : (raiseVblank s).bootOverlay = s.bootOverlay := rfl
@[simp] theorem raiseVblank_mem (s : State) : (raiseVblank s).mem = s.mem := rfl
@[simp] theorem raiseVblank_cart (s : State) : (raiseVblank s).cart = s.cart := rfl
@[simp] theorem raiseVblank_ext (s : State) : (raiseVblank s).ext = s.ext := rfl
@[simp] theorem raiseVblank_out (s : State) : (raiseVblank s).out = { s.out with vblankNote := true } := rfl

/-! ### `beginStep` -/

@[simp] theorem beginStep_cfg (s : State) : (beginStep s).cfg = s.cfg := rfl
@[simp] theorem beginStep_regs (s : State) : (beginStep s).regs = s.regs := rfl
@[simp] theorem beginStep_irq (s : State) : (beginStep s).irq = s.irq.pipeline := rfl
@[simp] theorem beginStep_halted (s : State) : (beginStep s).halted = s.halted := rfl
@[simp] theorem beginStep_fault (s : State) : (beginStep s).fault = s.fault := rfl
@[simp] theorem beginStep_timer (s : State) : (beginStep s).timer = s.timer := rfl
@[simp] theorem beginStep_disp (s : State) : (beginStep s).disp = s.disp := rfl
@[simp] theorem beginStep_dma (s : State) : (beginStep s).dma = s.dma := rfl
@[simp] theorem beginStep_bootOverlay (s : State) : (beginStep s).bootOverlay = s.bootOverlay := rfl
@[simp] theorem beginStep_mem (s : State) : (beginStep s).mem = s.mem := rfl
@[simp] theorem beginStep_cart (s : State) : (beginStep s).cart = s.cart := rfl
@[simp] theorem beginStep_ext (s : State) : (beginStep s).ext = s.ext := rfl
@[simp] theorem beginStep_out (s : State) : (beginStep s).out = StepOut.none := rfl

/-! ### `idleStep` -/

@[simp] theorem idleStep_cfg (s : State) : (idleStep s).cfg = s.cfg := rfl
@[simp] theorem idleStep_regs (s : State) : (idleStep s).regs = s.regs := rfl
@[simp] theorem idleStep_irq (s : State) : (idleStep s).irq = s.irq := rfl
@[simp] theorem idleStep_halted (s : State) : (idleStep s).halted = s.halted := rfl
@[simp] theorem idleStep_fault (s : State) : (idleStep s).fault = s.fault := rfl
@[simp] theorem idleStep_timer (s : State) : (idleStep s).timer = s.timer := rfl
@[simp] theorem idleStep_disp (s : State) : (idleStep s).disp = s.disp := rfl
@[simp] theorem idleStep_dma (s : State) : (idleStep s).dma = s.dma := rfl
@[simp] theorem idleStep_bootOverlay (s : State) : (idleStep s).bootOverlay = s.bootOverlay := rfl
@[simp] theorem idleStep_mem (s : State) : (idleStep s).mem = s.mem := rfl
@[simp] theorem idleStep_cart (s : State) : (idleStep s).cart = s.cart := rfl
@[simp] theorem idleStep_ext (s : State) : (idleStep s).ext = s.ext := rfl
@[simp] theorem idleStep_out (s : State) : (idleStep s).out = { s.out with ticks := s.cfg.haltIdleTicks } := rfl

/-! ### `wake` -/

@[simp] theorem wake_cfg (s : State) : (wake s).cfg = s.cfg := rfl
@[simp] theorem wake_regs (s : State) : (wake s).regs = s.regs := rfl
@[simp] theorem wake_irq (s : State) : (wake s).irq = s.irq := rfl
@[simp] theorem wake_halted (s : State) : (wake s).halted = false := rfl
@[simp] theorem wake_fault (s : State) : (wake s).fault = s.fault := rfl
@[simp] theorem wake_timer (s : State) : (wake s).timer = s.timer := rfl
@[simp] theorem wake_disp (s : State) : (wake s).disp = s.disp := rfl
@[simp] theorem wake_dma (s : State) : (wake s).dma = s.dma := rfl
@[simp] theorem wake_bootOverlay (s : State) : (wake s).bootOverlay = s.bootOverlay := rfl
@[simp] theorem wake_mem (s : State) : (wake s).mem = s.mem := rfl
@[simp] theorem wake_cart (s : State) : (wake s).cart = s.cart := rfl
@[simp] theorem wake_ext (s : State) : (wake s).ext = s.ext := rfl
@[simp] theorem wake_out (s : State) : (wake s).out = s.out := rfl

/-! ### `State.faulted` -/

@[simp] theorem State.faulted_cfg (k : Fault) (s : State) : (s.faulted k).cfg = s.cfg := rfl
@[simp] theorem State.faulted_regs (k : Fault) (s : State) : (s.faulted k).regs = s.regs := rfl
@[simp] theorem State.faulted_irq (k : Fault) (s : State) : (s.faulted k).irq = s.irq := rfl
@[simp] theorem State.faulted_halted (k : Fault) (s : State) : (s.faulted k).halted = s.halted := rfl
@[simp] theorem State.faulted_fault (k : Fault) (s : State) : (s.faulted k).fault = some k := rfl
@[simp] theorem State.faulted_timer (k : Fault) (s : State) : (s.faulted k).timer = s.timer := rfl
@[simp] theorem State.faulted_disp (k : Fault) (s : State) : (s.faulted k).disp = s.disp := rfl
@[simp] theorem State.faulted_dma (k : Fault) (s : State) : (s.faulted k).dma = s.dma := rfl
@[simp] theorem State.faulted_bootOverlay (k : Fault) (s : State) : (s.faulted k).bootOverlay = s.bootOverlay := rfl
@[simp] theorem State.faulted_mem (k : Fault) (s : State) : (s.faulted k).mem = s.mem := rfl
@[simp] theorem State.faulted_cart (k : Fault) (s : State) : (s.faulted k).cart = s.cart := rfl
@[simp] theorem State.faulted_ext (k : Fault) (s : State) : (s.faulted k).ext = s.ext := rfl
@[simp] theorem State.faulted_out (k : Fault) (s : State) : (s.faulted k).out = s.out := rfl

end Sys2Proof.Machine
end

