-- ==== Sys2Proof/Laws/Bus.lean ====
section
/-! SUPPORT. What a bus access can change: a read changes only the collaborators' states, and a write changes no register, no output and
nothing of the IME pipeline; and that neither looks at the registers or the outputs. -/

namespace Sys2Proof.Machine

/-! ### A read changes only the collaborators -/

/-- Everything a read of the cartridge can do to the state. -/
theorem cartAfter_cases (a : Word) (s : State) :
    cartAfter s a = s ∨ cartAfter s a = logCart (.read a) s
      ∨ ∃ d, s.cfg.cartridge = .named d ∧ cartAfter s a = runCart d.onRead a 0 s := by
  unfold cartAfter
  split
  · exact .inr (.inr ⟨_, ‹_›, rfl⟩)
  all_goals
    split
    · exact .inl rfl
    · exact .inr (.inl rfl)

/-- Everything a read can do to the state. -/
theorem afterRead_cases (a : Word) (s : State) :
    afterRead a s = s ∨ afterRead a s = logCart (.read a) s ∨ afterRead a s = logExt (.read a) s
      ∨ (∃ d, s.cfg.cartridge = .named d ∧ afterRead a s = runCart d.onRead a 0 s)
      ∨ ∃ d, s.cfg.extIo = .named d ∧ afterRead a s = runExt d.onRead a 0 s := by
  unfold afterRead
  split
  · split
    · exact .inl rfl
    · obtain h | h | h := cartAfter_cases a s
      exacts [.inl h, .inr (.inl h), .inr (.inr (.inr (.inl h)))]
  · obtain h | h | h := cartAfter_cases a s
    exacts [.inl h, .inr (.inl h), .inr (.inr (.inr (.inl h)))]
  · split
    · unfold extAfter
      split
      · exact .inr (.inr (.inl rfl))
      · exact .inr (.inr (.inr (.inr ⟨_, ‹_›, rfl⟩)))
    · exact .inl rfl
  · exact .inl rfl

@[simp] theorem afterRead_cfg (a : Word) (s : State) : (afterRead a s).cfg = s.cfg := by
  obtain h | h | h | ⟨_, _, h⟩ | ⟨_, _, h⟩ := afterRead_cases a s <;> rw [h] <;> rfl

@[simp] theorem afterRead_regs (a : Word) (s : State) : (afterRead a s).regs = s.regs := by
  obtain h | h | h | ⟨_, _, h⟩ | ⟨_, _, h⟩ := afterRead_cases a s <;> rw [h] <;> rfl

@[simp] theorem afterRead_irq (a : Word) (s : State) : (afterRead a s).irq = s.irq := by
  obtain h | h | h | ⟨_, _, h⟩ | ⟨_, _, h⟩ := afterRead_cases a s <;> rw [h] <;> rfl

@[simp] theorem afterRead_halted (a : Word) (s : State) : (afterRead a s).halted = s.halted := by
  obtain h | h | h | ⟨_, _, h⟩ | ⟨_, _, h⟩ := afterRead_cases a s <;> rw [h] <;> rfl

@[simp] theorem afterRead_fault (a : Word) (s : State) : (afterRead a s).fault = s.fault := by
  obtain h | h | h | ⟨_, _, h⟩ | ⟨_, _, h⟩ := afterRead_cases a s <;> rw [h] <;> rfl

@[simp] theorem afterRead_timer (a : Word) (s : State) : (afterRead a s).timer = s.timer := by
  obtain h | h | h | ⟨_, _, h⟩ | ⟨_, _, h⟩ := afterRead_cases a s <;> rw [h] <;> rfl

@[simp] theorem afterRead_disp (a : Word) (s : State) : (afterRead a s).disp = s.disp := by
  obtain h | h | h | ⟨_, _, h⟩ | ⟨_, _, h⟩ := afterRead_cases a s <;> rw [h] <;> rfl

@[simp] theorem afterRead_dma (a : Word) (s : State) : (afterRead a s).dma = s.dma := by
  obtain h | h | h | ⟨_, _, h⟩ | ⟨_, _, h⟩ := afterRead_cases a s <;> rw [h] <;> rfl

@[simp] theorem afterRead_bootOverlay (a : Word) (s : State) : (afterRead a s).bootOverlay = s.bootOverlay := by
  obtain h | h | h | ⟨_, _, h⟩ | ⟨_, _, h⟩ := afterRead_cases a s <;> rw [h] <;> rfl

@[simp] theorem afterRead_mem (a : Word) (s : State) : (afterRead a s).mem = s.mem := by
  obtain h | h | h | ⟨_, _, h⟩ | ⟨_, _, h⟩ := afterRead_cases a s <;> rw [h] <;> rfl

@[simp] theorem afterRead_out (a : Word) (s : State) : (afterRead a s).out = s.out := by
  obtain h | h | h | ⟨_, _, h⟩ | ⟨_, _, h⟩ := afterRead_cases a s <;> rw [h] <;> rfl

@[simp] theorem afterRead_image (a : Word) (s : State) : (afterRead a s).cart.image = s.cart.image := by
  obtain h | h | h | ⟨_, _, h⟩ | ⟨_, _, h⟩ := afterRead_cases a s <;> rw [h] <;> rfl

/-- A named cartridge whose reads store nothing keeps its state through a read. -/
theorem afterRead_cart_of_named {d : Device} {s : State} (a : Word) (h : s.cfg.cartridge = .named d) (hd : d.onRead = []) :
    (afterRead a s).cart = s.cart := by
  have hc : (cartAfter s a).cart = s.cart := by simp [cartAfter, h, hd, deviceStores]
  have he : (extAfter s a).cart = s.cart := by unfold extAfter; split <;> rfl
  unfold afterRead
  split
  · split <;> first | rfl | exact hc
  · exact hc
  · split <;> first | rfl | exact he
  · rfl

/-- Named peripherals whose reads store nothing keep their state through a read. -/
theorem afterRead_ext_of_named {d : Device} {s : State} (a : Word) (h : s.cfg.extIo = .named d) (hd : d.onRead = []) :
    (afterRead a s).ext = s.ext := by
  have hc : (cartAfter s a).ext = s.ext := by unfold cartAfter; split <;> first | rfl | (split <;> rfl)
  have he : (extAfter s a).ext = s.ext := by simp [extAfter, h, hd, deviceStores]
  unfold afterRead
  split
  · split <;> first | rfl | exact hc
  · exact hc
  · split <;> first | rfl | exact he
  · rfl

/-! ### A read sees the same bytes whatever the registers and outputs -/

theorem readVal_regs (a : Word) (s : State) (r : Regs) : readVal a { s with regs := r } = readVal a s := rfl

theorem readVal_out (a : Word) (s : State) (r : StepOut) : readVal a { s with out := r } = readVal a s := rfl

theorem cartAfter_withRegs (a : Word) (s : State) (r : Regs) :
    cartAfter { s with regs := r } a = { cartAfter s a with regs := r } := by
  have h : cartKnown { s with regs := r } a = cartKnown s a := rfl
  simp only [cartAfter, h]
  split <;> first | rfl | (split <;> rfl)

theorem extAfter_withRegs (a : Word) (s : State) (r : Regs) :
    extAfter { s with regs := r } a = { extAfter s a with regs := r } := by
  simp only [extAfter]
  split <;> rfl

theorem afterRead_withRegs (a : Word) (s : State) (r : Regs) :
    afterRead a { s with regs := r } = { afterRead a s with regs := r } := by
  simp only [afterRead]
  split
  · split
    · rfl
    · exact cartAfter_withRegs a s r
  · exact cartAfter_withRegs a s r
  · split
    · exact extAfter_withRegs a s r
    · rfl
  · rfl

/-! ### What a write can change -/

/-- One byte of the DMA copy changes only OAM and the collaborators. -/
theorem dmaByte_eq (src : Word) (s : State) (i : Nat) :
    dmaByte src s i = ramWrite (0xFE00 + i) (readVal (src + BitVec.ofNat 16 i) s) (afterRead (src + BitVec.ofNat 16 i) s) := rfl

/-- A property of states that one byte of the copy keeps is kept by the whole copy. -/
theorem dmaCopy_keeps (P : State → Prop) (v : Byte) (s : State) (hs : P s)
    (step : ∀ t i, P t → i < 160 → P (dmaByte (join v 0x00) t i)) : P (dmaCopy v s) := by
  have go : ∀ (l : List Nat) (t : State), P t → (∀ i ∈ l, i < 160) → P (l.foldl (dmaByte (join v 0x00)) t) := by
    intro l
    induction l with
    | nil => intro t ht _; exact ht
    | cons i l ih =>
      intro t ht hl
      exact ih _ (step t i ht (hl i (by simp))) (fun j hj => hl j (by simp [hj]))
  exact go _ s hs (by intro i hi; exact List.mem_range.mp hi)

@[simp] theorem dmaCopy_cfg (v : Byte) (s : State) : (dmaCopy v s).cfg = s.cfg :=
  dmaCopy_keeps (fun t => t.cfg = s.cfg) v s rfl (fun t i h _ => by simpa [dmaByte_eq] using h)

@[simp] theorem dmaCopy_regs (v : Byte) (s : State) : (dmaCopy v s).regs = s.regs :=
  dmaCopy_keeps (fun t => t.regs = s.regs) v s rfl (fun t i h _ => by simpa [dmaByte_eq] using h)

@[simp] theorem dmaCopy_irq (v : Byte) (s : State) : (dmaCopy v s).irq = s.irq :=
  dmaCopy_keeps (fun t => t.irq = s.irq) v s rfl (fun t i h _ => by simpa [dmaByte_eq] using h)

@[simp] theorem dmaCopy_halted (v : Byte) (s : State) : (dmaCopy v s).halted = s.halted :=
  dmaCopy_keeps (fun t => t.halted = s.halted) v s rfl (fun t i h _ => by simpa [dmaByte_eq] using h)

@[simp] theorem dmaCopy_fault (v : Byte) (s : State) : (dmaCopy v s).fault = s.fault :=
  dmaCopy_keeps (fun t => t.fault = s.fault) v s rfl (fun t i h _ => by simpa [dmaByte_eq] using h)

@[simp] theorem dmaCopy_timer (v : Byte) (s : State) : (dmaCopy v s).timer = s.timer :=
  dmaCopy_keeps (fun t => t.timer = s.timer) v s rfl (fun t i h _ => by simpa [dmaByte_eq] using h)

@[simp] theorem dmaCopy_disp (v : Byte) (s : State) : (dmaCopy v s).disp = s.disp :=
  dmaCopy_keeps (fun t => t.disp = s.disp) v s rfl (fun t i h _ => by simpa [dmaByte_eq] using h)

@[simp] theorem dmaCopy_dma (v : Byte) (s : State) : (dmaCopy v s).dma = s.dma :=
  dmaCopy_keeps (fun t => t.dma = s.dma) v s rfl (fun t i h _ => by simpa [dmaByte_eq] using h)

@[simp] theorem dmaCopy_bootOverlay (v : Byte) (s : State) : (dmaCopy v s).bootOverlay = s.bootOverlay :=
  dmaCopy_keeps (fun t => t.bootOverlay = s.bootOverlay) v s rfl (fun t i h _ => by simpa [dmaByte_eq] using h)

@[simp] theorem dmaCopy_out (v : Byte) (s : State) : (dmaCopy v s).out = s.out :=
  dmaCopy_keeps (fun t => t.out = s.out) v s rfl (fun t i h _ => by simpa [dmaByte_eq] using h)

@[simp] theorem dmaCopy_image (v : Byte) (s : State) : (dmaCopy v s).cart.image = s.cart.image :=
  dmaCopy_keeps (fun t => t.cart.image = s.cart.image) v s rfl (fun t i h _ => by simpa [dmaByte_eq] using h)

@[simp] theorem extWrite_cfg (a : Word) (v : Byte) (s : State) : (extWrite a v s).cfg = s.cfg := by
  unfold extWrite; split <;> rfl

@[simp] theorem extWrite_regs (a : Word) (v : Byte) (s : State) : (extWrite a v s).regs = s.regs := by
  unfold extWrite; split <;> rfl

@[simp] theorem extWrite_irq (a : Word) (v : Byte) (s : State) : (extWrite a v s).irq = s.irq := by
  unfold extWrite; split <;> rfl

@[simp] theorem extWrite_halted (a : Word) (v : Byte) (s : State) : (extWrite a v s).halted = s.halted := by
  unfold extWrite; split <;> rfl

@[simp] theorem extWrite_fault (a : Word) (v : Byte) (s : State) : (extWrite a v s).fault = s.fault := by
  unfold extWrite; split <;> rfl

@[simp] theorem extWrite_timer (a : Word) (v : Byte) (s : State) : (extWrite a v s).timer = s.timer := by
  unfold extWrite; split <;> rfl

@[simp] theorem extWrite_disp (a : Word) (v : Byte) (s : State) : (extWrite a v s).disp = s.disp := by
  unfold extWrite; split <;> rfl

@[simp] theorem extWrite_dma (a : Word) (v : Byte) (s : State) : (extWrite a v s).dma = s.dma := by
  unfold extWrite; split <;> rfl

@[simp] theorem extWrite_bootOverlay (a : Word) (v : Byte) (s : State) : (extWrite a v s).bootOverlay = s.bootOverlay := by
  unfold extWrite; split <;> rfl

@[simp] theorem extWrite_mem (a : Word) (v : Byte) (s : State) : (extWrite a v s).mem = s.mem := by
  unfold extWrite; split <;> rfl

@[simp] theorem extWrite_cart (a : Word) (v : Byte) (s : State) : (extWrite a v s).cart = s.cart := by
  unfold extWrite; split <;> rfl

@[simp] theorem extWrite_out (a : Word) (v : Byte) (s : State) : (extWrite a v s).out = s.out := by
  unfold extWrite; split <;> rfl

@[simp] theorem dmaTrigger_cfg (v : Byte) (s : State) : (dmaTrigger v s).cfg = s.cfg := by
  unfold dmaTrigger; split <;> simp

@[simp] theorem ioWrite_cfg (a : Word) (v : Byte) (s : State) : (ioWrite a v s).cfg = s.cfg := by
  unfold ioWrite
  split
  case h_1 => simp
  case h_13 => simp
  case h_19 => split <;> rfl
  all_goals rfl

@[simp] theorem cartWrite_cfg (a : Word) (v : Byte) (s : State) : (cartWrite a v s).cfg = s.cfg := by
  unfold cartWrite; split <;> first | rfl | (split <;> rfl)

@[simp] theorem memWrite_cfg (a : Word) (v : Byte) (s : State) : (memWrite a v s).cfg = s.cfg := by
  unfold memWrite; split <;> simp

@[simp] theorem dmaTrigger_regs (v : Byte) (s : State) : (dmaTrigger v s).regs = s.regs := by
  unfold dmaTrigger; split <;> simp

@[simp] theorem ioWrite_regs (a : Word) (v : Byte) (s : State) : (ioWrite a v s).regs = s.regs := by
  unfold ioWrite
  split
  case h_1 => simp
  case h_13 => simp
  case h_19 => split <;> rfl
  all_goals rfl

@[simp] theorem cartWrite_regs (a : Word) (v : Byte) (s : State) : (cartWrite a v s).regs = s.regs := by
  unfold cartWrite; split <;> first | rfl | (split <;> rfl)

@[simp] theorem memWrite_regs (a : Word) (v : Byte) (s : State) : (memWrite a v s).regs = s.regs := by
  unfold memWrite; split <;> simp

@[simp] theorem dmaTrigger_halted (v : Byte) (s : State) : (dmaTrigger v s).halted = s.halted := by
  unfold dmaTrigger; split <;> simp

@[simp] theorem ioWrite_halted (a : Word) (v : Byte) (s : State) : (ioWrite a v s).halted = s.halted := by
  unfold ioWrite
  split
  case h_1 => simp
  case h_13 => simp
  case h_19 => split <;> rfl
  all_goals rfl

@[simp] theorem cartWrite_halted (a : Word) (v : Byte) (s : State) : (cartWrite a v s).halted = s.halted := by
  unfold cartWrite; split <;> first | rfl | (split <;> rfl)

@[simp] theorem memWrite_halted (a : Word) (v : Byte) (s : State) : (memWrite a v s).halted = s.halted := by
  unfold memWrite; split <;> simp

@[simp] theorem dmaTrigger_fault (v : Byte) (s : State) : (dmaTrigger v s).fault = s.fault := by
  unfold dmaTrigger; split <;> simp

@[simp] theorem ioWrite_fault (a : Word) (v : Byte) (s : State) : (ioWrite a v s).fault = s.fault := by
  unfold ioWrite
  split
  case h_1 => simp
  case h_13 => simp
  case h_19 => split <;> rfl
  all_goals rfl

@[simp] theorem cartWrite_fault (a : Word) (v : Byte) (s : State) : (cartWrite a v s).fault = s.fault := by
  unfold cartWrite; split <;> first | rfl | (split <;> rfl)

@[simp] theorem memWrite_fault (a : Word) (v : Byte) (s : State) : (memWrite a v s).fault = s.fault := by
  unfold memWrite; split <;> simp

@[simp] theorem dmaTrigger_out (v : Byte) (s : State) : (dmaTrigger v s).out = s.out := by
  unfold dmaTrigger; split <;> simp

@[simp] theorem ioWrite_out (a : Word) (v : Byte) (s : State) : (ioWrite a v s).out = s.out := by
  unfold ioWrite
  split
  case h_1 => simp
  case h_13 => simp
  case h_19 => split <;> rfl
  all_goals rfl

@[simp] theorem cartWrite_out (a : Word) (v : Byte) (s : State) : (cartWrite a v s).out = s.out := by
  unfold cartWrite; split <;> first | rfl | (split <;> rfl)

@[simp] theorem memWrite_out (a : Word) (v : Byte) (s : State) : (memWrite a v s).out = s.out := by
  unfold memWrite; split <;> simp

@[simp] theorem cartWrite_irq (a : Word) (v : Byte) (s : State) : (cartWrite a v s).irq = s.irq := by
  unfold cartWrite; split <;> first | rfl | (split <;> rfl)

@[simp] theorem dmaTrigger_irq (v : Byte) (s : State) : (dmaTrigger v s).irq = s.irq := by
  unfold dmaTrigger; split <;> simp

@[simp] theorem ioWrite_ime (a : Word) (v : Byte) (s : State) : (ioWrite a v s).irq.ime = s.irq.ime := by
  unfold ioWrite
  split
  case h_1 => simp
  case h_13 => simp
  case h_19 => split <;> rfl
  all_goals rfl

@[simp] theorem memWrite_ime (a : Word) (v : Byte) (s : State) : (memWrite a v s).irq.ime = s.irq.ime := by
  unfold memWrite
  split
  case h_2 => simp
  case h_8 => simp
  all_goals rfl

@[simp] theorem ioWrite_imeDelayed (a : Word) (v : Byte) (s : State) : (ioWrite a v s).irq.imeDelayed = s.irq.imeDelayed := by
  unfold ioWrite
  split
  case h_1 => simp
  case h_13 => simp
  case h_19 => split <;> rfl
  all_goals rfl

@[simp] theorem memWrite_imeDelayed (a : Word) (v : Byte) (s : State) : (memWrite a v s).irq.imeDelayed = s.irq.imeDelayed := by
  unfold memWrite
  split
  case h_2 => simp
  case h_8 => simp
  all_goals rfl

@[simp] theorem ioWrite_imeRequest (a : Word) (v : Byte) (s : State) : (ioWrite a v s).irq.imeRequest = s.irq.imeRequest := by
  unfold ioWrite
  split
  case h_1 => simp
  case h_13 => simp
  case h_19 => split <;> rfl
  all_goals rfl

@[simp] theorem memWrite_imeRequest (a : Word) (v : Byte) (s : State) : (memWrite a v s).irq.imeRequest = s.irq.imeRequest := by
  unfold memWrite
  split
  case h_2 => simp
  case h_8 => simp
  all_goals rfl

/-! ### A write does the same whatever the registers and outputs -/

theorem dmaByte_withRegs (src : Word) (s : State) (i : Nat) (r : Regs) :
    dmaByte src { s with regs := r } i = { dmaByte src s i with regs := r } := by
  simp only [dmaByte_eq, afterRead_withRegs, readVal_regs]; rfl

theorem dmaCopy_withRegs (v : Byte) (s : State) (r : Regs) :
    dmaCopy v { s with regs := r } = { dmaCopy v s with regs := r } := by
  have go : ∀ (l : List Nat) (t : State), l.foldl (dmaByte (join v 0x00)) { t with regs := r }
      = { l.foldl (dmaByte (join v 0x00)) t with regs := r } := by
    intro l
    induction l with
    | nil => intro t; rfl
    | cons i l ih => intro t; simp only [List.foldl_cons, dmaByte_withRegs, ih]
  exact go _ s

theorem dmaTrigger_withRegs (v : Byte) (s : State) (r : Regs) :
    dmaTrigger v { s with regs := r } = { dmaTrigger v s with regs := r } := by
  simp only [dmaTrigger]
  split
  · exact dmaCopy_withRegs v { s with dma := v } r
  · rfl

theorem extWrite_withRegs (a : Word) (v : Byte) (s : State) (r : Regs) :
    extWrite a v { s with regs := r } = { extWrite a v s with regs := r } := by
  simp only [extWrite]
  split <;> rfl

theorem ioWrite_withRegs (a : Word) (v : Byte) (s : State) (r : Regs) :
    ioWrite a v { s with regs := r } = { ioWrite a v s with regs := r } := by
  unfold ioWrite
  split
  case h_1 => exact extWrite_withRegs a v s r
  case h_13 => exact dmaTrigger_withRegs v s r
  case h_19 => split <;> rfl
  all_goals rfl

theorem cartWrite_withRegs (a : Word) (v : Byte) (s : State) (r : Regs) :
    cartWrite a v { s with regs := r } = { cartWrite a v s with regs := r } := by
  unfold cartWrite
  dsimp only
  split <;> first | rfl | (split <;> rfl)

theorem memWrite_withRegs (a : Word) (v : Byte) (s : State) (r : Regs) :
    memWrite a v { s with regs := r } = { memWrite a v s with regs := r } := by
  unfold memWrite
  split
  case h_2 => exact cartWrite_withRegs a v s r
  case h_8 => exact ioWrite_withRegs a v s r
  all_goals rfl

/-! ### The stack in one equation each -/

/-- `Push16` is two byte writes, and SP moves down by 2. -/
theorem push16_eq (w : Word) (s : State) :
    push16 w s = (memWrite (s.regs.sp - 2) (lo8 w) (memWrite (s.regs.sp - 1) (hi8 w) s)).setSp (s.regs.sp - 2) := by
  have h2 : s.regs.sp - 1 - 1 = s.regs.sp - 2 := by bv_omega
  simp only [push16, State.setSp, memWrite_withRegs, memWrite_regs, h2]

@[simp] theorem push16_regs (w : Word) (s : State) : (push16 w s).regs = { s.regs with sp := s.regs.sp - 2 } := by
  simp [push16_eq]

@[simp] theorem push16_cfg (w : Word) (s : State) : (push16 w s).cfg = s.cfg := by
  simp [push16_eq]

@[simp] theorem push16_halted (w : Word) (s : State) : (push16 w s).halted = s.halted := by
  simp [push16_eq]

@[simp] theorem push16_fault (w : Word) (s : State) : (push16 w s).fault = s.fault := by
  simp [push16_eq]

@[simp] theorem push16_out (w : Word) (s : State) : (push16 w s).out = s.out := by
  simp [push16_eq]

@[simp] theorem push16_ime (w : Word) (s : State) : (push16 w s).irq.ime = s.irq.ime := by
  simp [push16_eq]

@[simp] theorem push16_imeDelayed (w : Word) (s : State) : (push16 w s).irq.imeDelayed = s.irq.imeDelayed := by
  simp [push16_eq]

@[simp] theorem push16_imeRequest (w : Word) (s : State) : (push16 w s).irq.imeRequest = s.irq.imeRequest := by
  simp [push16_eq]

@[simp] theorem popAfter_cfg (s : State) : (popAfter s).cfg = s.cfg := by
  simp [popAfter, afterReadWord]

@[simp] theorem popAfter_irq (s : State) : (popAfter s).irq = s.irq := by
  simp [popAfter, afterReadWord]

@[simp] theorem popAfter_halted (s : State) : (popAfter s).halted = s.halted := by
  simp [popAfter, afterReadWord]

@[simp] theorem popAfter_fault (s : State) : (popAfter s).fault = s.fault := by
  simp [popAfter, afterReadWord]

@[simp] theorem popAfter_timer (s : State) : (popAfter s).timer = s.timer := by
  simp [popAfter, afterReadWord]

@[simp] theorem popAfter_disp (s : State) : (popAfter s).disp = s.disp := by
  simp [popAfter, afterReadWord]

@[simp] theorem popAfter_dma (s : State) : (popAfter s).dma = s.dma := by
  simp [popAfter, afterReadWord]

@[simp] theorem popAfter_bootOverlay (s : State) : (popAfter s).bootOverlay = s.bootOverlay := by
  simp [popAfter, afterReadWord]

@[simp] theorem popAfter_mem (s : State) : (popAfter s).mem = s.mem := by
  simp [popAfter, afterReadWord]

@[simp] theorem popAfter_out (s : State) : (popAfter s).out = s.out := by
  simp [popAfter, afterReadWord]

@[simp] theorem popAfter_regs (s : State) : (popAfter s).regs = { s.regs with sp := s.regs.sp + 2 } := by
  simp [popAfter, afterReadWord]

@[simp] theorem popAfter_image (s : State) : (popAfter s).cart.image = s.cart.image := by
  simp [popAfter, afterReadWord]

end Sys2Proof.Machine
end

