-- ==== Sys2Proof/Laws/Devices.lean ====
section
/-! SUPPORT. What a delivery of ticks to the timer and to the display can do. -/

namespace Sys2Proof.Machine

/-! ### The timer -/

theorem timerDivisor_pos (tac : BitVec 3) : 0 < timerDivisor tac := by revert tac; decide

/-- One increment of TIMA, as one update: the overflow reloads TMA and requests interrupt 2. -/
theorem timaBump_eq (s : State) :
    timaBump s
      = { s with
          timer := { s.timer with tima := if s.timer.tima = 0xFF then s.timer.tma else s.timer.tima + 1 }
          irq := { s.irq with iflag := s.irq.iflag ||| (if s.timer.tima = 0xFF then 0b00100 else 0) } } := by
  unfold timaBump
  split
  · simp [raiseLine]
  · simp

/-- What the increments of TIMA can do: they change TIMA and set bit 2 of IF, or neither. -/
theorem timaBumps_cases (n : Nat) (s : State) :
    ∃ tima : Byte, ∃ flag : BitVec 5,
      timaBumps n s
        = { s with timer := { s.timer with tima := tima }, irq := { s.irq with iflag := s.irq.iflag ||| flag } } := by
  induction n generalizing s with
  | zero => exact ⟨s.timer.tima, 0, by simp [timaBumps]⟩
  | succ n ih =>
    obtain ⟨v, f, h⟩ := ih (timaBump s)
    simp only [timaBumps]
    rw [h, timaBump_eq]
    exact ⟨v, _, by simp only [BitVec.or_assoc]; rfl⟩

/-- What a delivery to the timer can do: its two accumulators stay below their periods. -/
theorem timerTick_cases (t : Nat) (s : State) :
    ∃ tima : Byte, ∃ acc : Nat, ∃ flag : BitVec 5,
      timerTick t s
        = { s with
            timer := { s.timer with
              div := s.timer.div + BitVec.ofNat 8 ((s.timer.divAcc + t) / 256)
              divAcc := (s.timer.divAcc + t) % 256, tima := tima, timaAcc := acc }
            irq := { s.irq with iflag := s.irq.iflag ||| flag } }
        ∧ (s.timer.timaAcc < timerDivisor s.timer.tac → acc < timerDivisor s.timer.tac) := by
  simp only [timerTick, counterTick, dividerTick]
  by_cases h : s.timer.tac.getLsbD 2 = true
  · simp only [h, if_true]
    obtain ⟨v, f, hb⟩ := timaBumps_cases ((s.timer.timaAcc + t) / timerDivisor s.timer.tac)
      { s with timer := { s.timer with
          div := s.timer.div + BitVec.ofNat 8 ((s.timer.divAcc + t) / 256)
          divAcc := (s.timer.divAcc + t) % 256
          timaAcc := (s.timer.timaAcc + t) % timerDivisor s.timer.tac } }
    exact ⟨v, _, f, hb, fun _ => Nat.mod_lt _ (timerDivisor_pos _)⟩
  · simp only [Bool.not_eq_true] at h
    simp only [h, Bool.false_eq_true, if_false]
    exact ⟨s.timer.tima, s.timer.timaAcc, 0, by simp, id⟩

/-! ### The display -/

theorem Mode.duration_ge (m : Mode) : 80 ≤ m.duration := by cases m <;> decide

/-- A request by a STAT enable, as one update. -/
theorem statRequest_eq (bit : Nat) (s : State) :
    statRequest bit s
      = { s with
          irq := { s.irq with iflag := s.irq.iflag ||| (if s.disp.statEn.getLsbD bit then 0b00010 else 0) }
          out := { s.out with statNote := s.out.statNote || s.disp.statEn.getLsbD bit } } := by
  unfold statRequest
  by_cases h : s.disp.statEn.getLsbD bit = true
  · simp only [h, if_true]; simp [raiseStat, raiseLine]
  · simp only [Bool.not_eq_true] at h; simp only [h]; simp

/-- A change of LY with its coincidence, as one update. -/
theorem setLine_eq (ly : Byte) (s : State) :
    setLine ly s
      = { s with
          disp := { s.disp with ly := ly, coincidence := (ly == s.disp.lyc) }
          irq := { s.irq with
            iflag := s.irq.iflag ||| (if ly == s.disp.lyc && s.disp.statEn.getLsbD 3 then 0b00010 else 0) }
          out := { s.out with statNote := s.out.statNote || (ly == s.disp.lyc && s.disp.statEn.getLsbD 3) } } := by
  unfold setLine
  by_cases h : (ly == s.disp.lyc) = true
  · simp only [h, if_true, statRequest_eq, Bool.true_and]
  · simp only [Bool.not_eq_true] at h; simp only [h]; simp

/-- What the end of a phase can do: the mode, LY and the coincidence change, and requests may be set with their notes. -/
theorem phaseEnd_cases (s : State) :
    ∃ mode ly hit, ∃ flag : BitVec 5, ∃ stat vblank : Bool,
      phaseEnd s
        = { s with
            disp := { s.disp with mode := mode, ly := ly, coincidence := hit }
            irq := { s.irq with iflag := s.irq.iflag ||| flag }
            out := { s.out with statNote := stat, vblankNote := vblank } } := by
  unfold phaseEnd endHBlank endVBlankLine
  simp only [setLine_eq, statRequest_eq, setMode, raiseVblank, raiseLine]
  split
  · exact ⟨.transfer, s.disp.ly, s.disp.coincidence, 0, s.out.statNote, s.out.vblankNote, by simp⟩
  · exact ⟨_, _, _, _, _, _, rfl⟩
  · split <;> simp only [BitVec.or_assoc] <;> exact ⟨_, _, _, _, _, _, rfl⟩
  · generalize (if s.disp.ly + 1 = 154 then (0 : Byte) else s.disp.ly + 1) = line
    split
    · simp only [BitVec.or_assoc]; exact ⟨_, _, _, _, _, _, rfl⟩
    · exact ⟨_, _, _, _, _, _, rfl⟩

/-- The end of a phase takes its duration off the phase's ticks. -/
theorem phaseStep_ticks (s : State) : (phaseStep s).disp.phaseTicks = s.disp.phaseTicks - s.disp.mode.duration := by
  unfold phaseStep
  obtain ⟨_, _, _, _, _, _, h⟩ := phaseEnd_cases
    { s with disp := { s.disp with phaseTicks := s.disp.phaseTicks - s.disp.mode.duration } }
  rw [h]

/-- What the loop of a delivery keeps, from what each phase's end keeps. -/
theorem phaseLoop_keeps (P : State → Prop) (hP : ∀ s, P s → P (phaseStep s)) (n : Nat) (s : State) (h : P s) :
    P (phaseLoop n s) := by
  induction n generalizing s with
  | zero => exact h
  | succ n ih =>
    simp only [phaseLoop]
    split
    · exact h
    · exact ih _ (hP _ h)

/-- With enough phase ends allowed, the loop stops inside a phase. -/
theorem phaseLoop_done (n : Nat) (s : State) (h : s.disp.phaseTicks / 80 ≤ n) :
    (phaseLoop n s).disp.phaseTicks < (phaseLoop n s).disp.mode.duration := by
  induction n generalizing s with
  | zero => have := Mode.duration_ge s.disp.mode; simp only [phaseLoop]; omega
  | succ n ih =>
    simp only [phaseLoop]
    split
    · assumption
    · apply ih
      have := Mode.duration_ge s.disp.mode
      rw [phaseStep_ticks]; omega

/-- With enough phase ends allowed, allowing more changes nothing. -/
theorem phaseLoop_more (n k : Nat) (s : State) (h : s.disp.phaseTicks / 80 ≤ n) : phaseLoop (n + k) s = phaseLoop n s := by
  induction n generalizing s with
  | zero =>
    have := Mode.duration_ge s.disp.mode
    cases k with
    | zero => rfl
    | succ k => rw [Nat.zero_add]; simp only [phaseLoop]; rw [if_pos (by omega)]
  | succ n ih =>
    rw [Nat.succ_add]
    simp only [phaseLoop]
    split
    · rfl
    · have := Mode.duration_ge s.disp.mode
      apply ih
      rw [phaseStep_ticks]; omega

/-- What a delivery to the display can do. -/
theorem displayTick_cases (t : Nat) (s : State) :
    ∃ mode ticks ly hit, ∃ flag : BitVec 5, ∃ stat vblank : Bool,
      displayTick t s
        = { s with
            disp := { s.disp with mode := mode, phaseTicks := ticks, ly := ly, coincidence := hit }
            irq := { s.irq with iflag := s.irq.iflag ||| flag }
            out := { s.out with statNote := stat, vblankNote := vblank } } := by
  unfold displayTick
  split
  · exact ⟨s.disp.mode, s.disp.phaseTicks, s.disp.ly, s.disp.coincidence, 0, s.out.statNote, s.out.vblankNote, by simp⟩
  · refine phaseLoop_keeps (fun u => ∃ mode ticks ly hit, ∃ flag : BitVec 5, ∃ stat vblank : Bool,
      u = { s with
            disp := { s.disp with mode := mode, phaseTicks := ticks, ly := ly, coincidence := hit }
            irq := { s.irq with iflag := s.irq.iflag ||| flag }
            out := { s.out with statNote := stat, vblankNote := vblank } }) ?_ _ _
      ⟨s.disp.mode, s.disp.phaseTicks + t, s.disp.ly, s.disp.coincidence, 0, s.out.statNote, s.out.vblankNote, by simp⟩
    rintro u ⟨_, _, _, _, f, _, _, rfl⟩
    unfold phaseStep
    dsimp only
    generalize hu : ({ s with disp := _, irq := _, out := _ } : State) = u
    obtain ⟨m, l, c, g, st, vb, h⟩ := phaseEnd_cases u
    subst hu
    rw [h]
    exact ⟨m, _, l, c, f ||| g, st, vb, by simp only [BitVec.or_assoc]; rfl⟩

end Sys2Proof.Machine
end

