-- ==== Sys2Proof/Laws/Fetch.lean ====
section
/-! SUPPORT. The fetch: how many bytes it reads, what it can change, and that the bytes it gives always decode. -/

namespace Sys2Proof.Machine

@[simp] theorem fetchBytes_length (n : Nat) (a : Word) (s : State) : (fetchBytes n a s).1.length = n := by
  induction n generalizing a s with
  | zero => rfl
  | succ n ih => simp [fetchBytes, ih]

/-- What every read keeps, a fetch keeps. -/
theorem fetchBytes_keeps (P : State → Prop) (hP : ∀ a s, P s → P (afterRead a s)) (n : Nat) (a : Word) (s : State) (h : P s) :
    P (fetchBytes n a s).2 := by
  induction n generalizing a s with
  | zero => exact h
  | succ n ih => exact ih (a + 1) _ (hP a s h)

@[simp] theorem fetchInstr_cfg (s : State) : (fetchInstr s).2.cfg = s.cfg :=
  fetchBytes_keeps (fun t => t.cfg = s.cfg) (fun a t h => by simp [h]) _ _ s rfl

@[simp] theorem fetchInstr_regs (s : State) : (fetchInstr s).2.regs = s.regs :=
  fetchBytes_keeps (fun t => t.regs = s.regs) (fun a t h => by simp [h]) _ _ s rfl

@[simp] theorem fetchInstr_irq (s : State) : (fetchInstr s).2.irq = s.irq :=
  fetchBytes_keeps (fun t => t.irq = s.irq) (fun a t h => by simp [h]) _ _ s rfl

@[simp] theorem fetchInstr_halted (s : State) : (fetchInstr s).2.halted = s.halted :=
  fetchBytes_keeps (fun t => t.halted = s.halted) (fun a t h => by simp [h]) _ _ s rfl

@[simp] theorem fetchInstr_fault (s : State) : (fetchInstr s).2.fault = s.fault :=
  fetchBytes_keeps (fun t => t.fault = s.fault) (fun a t h => by simp [h]) _ _ s rfl

@[simp] theorem fetchInstr_timer (s : State) : (fetchInstr s).2.timer = s.timer :=
  fetchBytes_keeps (fun t => t.timer = s.timer) (fun a t h => by simp [h]) _ _ s rfl

@[simp] theorem fetchInstr_disp (s : State) : (fetchInstr s).2.disp = s.disp :=
  fetchBytes_keeps (fun t => t.disp = s.disp) (fun a t h => by simp [h]) _ _ s rfl

@[simp] theorem fetchInstr_dma (s : State) : (fetchInstr s).2.dma = s.dma :=
  fetchBytes_keeps (fun t => t.dma = s.dma) (fun a t h => by simp [h]) _ _ s rfl

@[simp] theorem fetchInstr_bootOverlay (s : State) : (fetchInstr s).2.bootOverlay = s.bootOverlay :=
  fetchBytes_keeps (fun t => t.bootOverlay = s.bootOverlay) (fun a t h => by simp [h]) _ _ s rfl

@[simp] theorem fetchInstr_mem (s : State) : (fetchInstr s).2.mem = s.mem :=
  fetchBytes_keeps (fun t => t.mem = s.mem) (fun a t h => by simp [h]) _ _ s rfl

@[simp] theorem fetchInstr_out (s : State) : (fetchInstr s).2.out = s.out :=
  fetchBytes_keeps (fun t => t.out = s.out) (fun a t h => by simp [h]) _ _ s rfl

@[simp] theorem fetchInstr_image (s : State) : (fetchInstr s).2.cart.image = s.cart.image :=
  fetchBytes_keeps (fun t => t.cart.image = s.cart.image) (fun a t h => by simp [h]) _ _ s rfl

/-- An instruction's length is 1, 2 or 3. -/
theorem instrLength_range (sl : StopLength) (op : Byte) : 1 ≤ instrLength sl op ∧ instrLength sl op ≤ 3 := by
  unfold instrLength
  cases baseRow op <;> cases sl <;> simp [Row.length, StopLength.bytes]

/-- The fetch gives the byte at PC first, and as many bytes as its length. -/
theorem fetchInstr_bytes (s : State) :
    ∃ rest, (fetchInstr s).1 = readVal s.regs.pc s :: rest
      ∧ rest.length + 1 = instrLength s.cfg.stopLength (readVal s.regs.pc s) := by
  have h := (instrLength_range s.cfg.stopLength (readVal s.regs.pc s)).1
  have hl := fetchBytes_length (instrLength s.cfg.stopLength (readVal s.regs.pc s)) s.regs.pc s
  obtain ⟨n, hn⟩ := Nat.exists_eq_succ_of_ne_zero (show instrLength s.cfg.stopLength (readVal s.regs.pc s) ≠ 0 by omega)
  unfold fetchInstr
  rw [hn] at hl ⊢
  exact ⟨_, rfl, hl⟩

/-- The instructions of the CB table are well-formed. -/
theorem cbRow_wellFormed (cb : Byte) : (cbRow cb).wellFormed = true := by
  unfold cbRow
  generalize (fieldX cb).toNat = x
  generalize R8.ofField (fieldZ cb) = r
  generalize (fieldY cb).toFin = b
  rcases x with _ | _ | _ | x
  · generalize RotOp.ofField (fieldY cb) = op
    cases op <;> cases r <;> rfl
  · fin_cases b <;> cases r <;> rfl
  · fin_cases b <;> cases r <;> rfl
  · fin_cases b <;> cases r <;> rfl

/-- Whether a row of the base map gives only well-formed instructions. -/
def Row.Good (r : Row) : Prop :=
  match r with
  | .op i | .x8 i => i.wellFormed = true
  | .n8 f | .a8 f | .e8 f => ∀ n, (f n).wellFormed = true
  | .n16 f | .a16 f => ∀ w, (f w).wellFormed = true
  | .cb => True

theorem baseRow_good (op : Byte) : Row.Good (baseRow op) := by
  have key : ∀ k : Fin 256, Row.Good (baseRow (BitVec.ofFin k)) := by
    intro k
    fin_cases k <;> first
      | exact (rfl : _ = true)
      | exact fun _ => (rfl : _ = true)
      | exact True.intro
  exact key op.toFin

/-- Exactly as many bytes as the first one gives decode to a well-formed instruction, and all of them are taken. -/
theorem decode_whole (sl : StopLength) (op : Byte) (rest : List Byte) (h : rest.length + 1 = instrLength sl op) :
    ∃ i, decode sl (op :: rest) = .ok (i, []) ∧ i.wellFormed = true := by
  have hg := baseRow_good op
  unfold instrLength at h
  unfold decode
  dsimp only
  cases hr : baseRow op <;> rw [hr] at h hg <;> simp only [Row.length] at h
  case op i => obtain rfl := List.length_eq_zero_iff.mp (by omega : rest.length = 0); exact ⟨i, rfl, hg⟩
  case cb =>
    obtain ⟨b, rfl⟩ := List.length_eq_one_iff.mp (by omega : rest.length = 1)
    exact ⟨_, rfl, cbRow_wellFormed b⟩
  case x8 i =>
    cases sl
    · obtain rfl := List.length_eq_zero_iff.mp (by simpa [StopLength.bytes] using h : rest.length = 0)
      exact ⟨i, rfl, hg⟩
    · obtain ⟨b, rfl⟩ := List.length_eq_one_iff.mp (by simpa [StopLength.bytes] using h : rest.length = 1)
      exact ⟨i, rfl, hg⟩
  all_goals first
    | (obtain ⟨b, rfl⟩ := List.length_eq_one_iff.mp (by omega : rest.length = 1)
       exact ⟨_, rfl, hg _⟩)
    | (obtain ⟨b, c, rfl⟩ := List.length_eq_two.mp (by omega : rest.length = 2)
       exact ⟨_, rfl, hg _⟩)

/-- The fetched bytes always decode (R315). -/
theorem fetchInstr_decodes (s : State) : ∃ i, decode s.cfg.stopLength (fetchInstr s).1 = .ok (i, []) ∧ i.wellFormed = true := by
  obtain ⟨rest, hb, hl⟩ := fetchInstr_bytes s
  rw [hb]
  exact decode_whole _ _ _ hl

end Sys2Proof.Machine
end

