-- ==== Sys2Proof/Laws/Reading.lean ====
section
/-! SUPPORT. Where an address lies, what a read of the bus depends on, and what a store to core RAM changes of it. -/

namespace Sys2Proof.Machine

/-! ### Regions -/

/-- The region of an address, with the range it lies in. -/
theorem region_cases (o : Bool) (a : Word) :
    (region o a = .boot ∧ o = true ∧ a.toNat ≤ 0xFF)
    ∨ (region o a = .cart ∧ (a.toNat ≤ 0x7FFF ∨ (0xA000 ≤ a.toNat ∧ a.toNat ≤ 0xBFFF)) ∧ (o = true → 0xFF < a.toNat))
    ∨ (region o a = .vram ∧ 0x8000 ≤ a.toNat ∧ a.toNat ≤ 0x9FFF) ∨ (region o a = .wram ∧ 0xC000 ≤ a.toNat ∧ a.toNat ≤ 0xDFFF)
    ∨ (region o a = .echo ∧ 0xE000 ≤ a.toNat ∧ a.toNat ≤ 0xFDFF) ∨ (region o a = .oam ∧ 0xFE00 ≤ a.toNat ∧ a.toNat ≤ 0xFE9F)
    ∨ (region o a = .unusable ∧ 0xFEA0 ≤ a.toNat ∧ a.toNat ≤ 0xFEFF) ∨ (region o a = .io ∧ 0xFF00 ≤ a.toNat ∧ a.toNat ≤ 0xFF7F)
    ∨ (region o a = .hram ∧ 0xFF80 ≤ a.toNat ∧ a.toNat ≤ 0xFFFE) ∨ (region o a = .ie ∧ a.toNat = 0xFFFF) := by
  have := a.isLt
  unfold region
  split
  · rename_i h; simp only [Bool.and_eq_true, decide_eq_true_eq] at h; exact .inl ⟨rfl, h⟩
  · rename_i h0
    have ho : o = true → 0xFF < a.toNat := by
      intro h; simp [h] at h0; exact h0
    split
    · exact .inr (.inl ⟨rfl, .inl ‹_›, ho⟩)
    · split
      · simp; omega
      · split
        · exact .inr (.inl ⟨rfl, .inr (by omega), ho⟩)
        · repeat' (split; · simp; omega)
          simp; omega

/-- Above the boot program's addresses the overlay does not matter. -/
theorem region_of (o : Bool) (a : Word) (h : 0xFF < a.toNat) : region o a = region false a := by
  unfold region
  have : ¬ (a.toNat ≤ 0xFF) := by omega
  simp [this]

/-- Where a register of the I/O map lies. -/
def IoPlace (r : IoReg) (a : Word) : Prop :=
  match r with
  | .ext => a.toNat ≤ 0xFF02 ∨ (0xFF10 ≤ a.toNat ∧ a.toNat ≤ 0xFF3F)
  | .div => a = 0xFF04 | .tima => a = 0xFF05 | .tma => a = 0xFF06 | .tac => a = 0xFF07 | .iflag => a = 0xFF0F
  | .lcdc => a = 0xFF40 | .stat => a = 0xFF41 | .scy => a = 0xFF42 | .scx => a = 0xFF43 | .ly => a = 0xFF44 | .lyc => a = 0xFF45
  | .dma => a = 0xFF46 | .bgp => a = 0xFF47 | .obp0 => a = 0xFF48 | .obp1 => a = 0xFF49 | .wy => a = 0xFF4A | .wx => a = 0xFF4B
  | .boot => a = 0xFF50 | .unmapped => True

theorem ioReg_place (a : Word) : IoPlace (ioReg a) a := by
  unfold ioReg
  refine iteInduction (motive := fun r => IoPlace r a) (fun h => .inl h) (fun _ => ?_)
  refine iteInduction (motive := fun r => IoPlace r a) (fun h => h) (fun _ => ?_)
  refine iteInduction (motive := fun r => IoPlace r a) (fun h => h) (fun _ => ?_)
  refine iteInduction (motive := fun r => IoPlace r a) (fun h => h) (fun _ => ?_)
  refine iteInduction (motive := fun r => IoPlace r a) (fun h => h) (fun _ => ?_)
  refine iteInduction (motive := fun r => IoPlace r a) (fun h => h) (fun _ => ?_)
  refine iteInduction (motive := fun r => IoPlace r a) (fun h => .inr h) (fun _ => ?_)
  refine iteInduction (motive := fun r => IoPlace r a) (fun h => h) (fun _ => ?_)
  refine iteInduction (motive := fun r => IoPlace r a) (fun h => h) (fun _ => ?_)
  refine iteInduction (motive := fun r => IoPlace r a) (fun h => h) (fun _ => ?_)
  refine iteInduction (motive := fun r => IoPlace r a) (fun h => h) (fun _ => ?_)
  refine iteInduction (motive := fun r => IoPlace r a) (fun h => h) (fun _ => ?_)
  refine iteInduction (motive := fun r => IoPlace r a) (fun h => h) (fun _ => ?_)
  refine iteInduction (motive := fun r => IoPlace r a) (fun h => h) (fun _ => ?_)
  refine iteInduction (motive := fun r => IoPlace r a) (fun h => h) (fun _ => ?_)
  refine iteInduction (motive := fun r => IoPlace r a) (fun h => h) (fun _ => ?_)
  refine iteInduction (motive := fun r => IoPlace r a) (fun h => h) (fun _ => ?_)
  refine iteInduction (motive := fun r => IoPlace r a) (fun h => h) (fun _ => ?_)
  refine iteInduction (motive := fun r => IoPlace r a) (fun h => h) (fun _ => ?_)
  refine iteInduction (motive := fun r => IoPlace r a) (fun h => h) (fun _ => ?_)
  trivial

/-! ### What a read depends on -/

/-- A byte of core RAM after a store to core RAM. -/
theorem ramVal_ramWrite (k j : Nat) (v : Byte) (s : State) :
    ramVal (ramWrite k v s) j = if k = j then v else ramVal s j := by
  simp only [ramVal, ramWrite]
  apply Memory.getD_read_put
  intro w h; simp [h]

/-- A byte the flat cartridge is known to hold is its answer. -/
theorem cartVal_known {s : State} {a : Word} {v : Byte} (h : cartKnown s a = some v) : cartVal s a = v := by
  simp only [cartVal, h, Option.getD_some]
  split <;> rename_i hc <;> simp_all [cartKnown]

/-- A read of a core-owned byte sees only these parts of the state. -/
theorem readVal_congr (s t : State) (b : Word) (ho : coreOwned s b = true) (hc : t.cfg = s.cfg)
    (hb : t.bootOverlay = s.bootOverlay) (ht : t.timer = s.timer) (hd : t.disp = s.disp) (hdma : t.dma = s.dma)
    (hie : t.irq.ie = s.irq.ie) (hif : t.irq.iflag = s.irq.iflag) (hm : t.mem = s.mem) (hi : t.cart.image = s.cart.image) :
    readVal b t = readVal b s := by
  have hk : cartKnown t b = cartKnown s b := by simp only [cartKnown, hc, hi]
  have hram : ∀ k, ramVal t k = ramVal s k := by intro k; simp only [ramVal, hm, hc]
  have hcv : (cartKnown s b).isSome = true → cartVal t b = cartVal s b := by
    intro h
    obtain ⟨v, hv⟩ := Option.isSome_iff_exists.mp h
    rw [cartVal_known hv, cartVal_known (hk.trans hv)]
  simp only [readVal, hb, hc, hram]
  simp only [coreOwned] at ho
  split <;> rename_i hr <;> simp only [hr] at ho
  · split
    · rfl
    · rename_i hn; simp only [hn, Option.isSome_none, Bool.false_or] at ho; exact hcv ho
  · exact hcv ho
  · rfl
  · rfl
  · rfl
  · rfl
  · rfl
  · simp only [decide_eq_true_eq] at ho
    simp only [ioVal, ht, hd, hdma, hif, hc]
    split <;> first | rfl | exact absurd ‹_› ho
  · rfl
  · exact hie

/-- Which bytes are the core's own depends only on these parts of the state. -/
theorem coreOwned_congr (s t : State) (b : Word) (hc : t.cfg = s.cfg)
    (hb : t.bootOverlay = s.bootOverlay) (hi : t.cart.image = s.cart.image) : coreOwned t b = coreOwned s b := by
  have hk : cartKnown t b = cartKnown s b := by simp only [cartKnown, hc, hi]
  simp only [coreOwned, hb, hc, hk]

/-- A read does not change what a read of a core-owned byte gives. -/
theorem readVal_afterRead (a b : Word) (s : State) (ho : coreOwned s b = true) : readVal b (afterRead a s) = readVal b s :=
  readVal_congr _ _ _ ho (by simp) (by simp) (by simp) (by simp) (by simp) (by simp) (by simp) (by simp) (by simp)

/-- A store to core RAM changes what no other address reads as. -/
theorem readVal_ramWrite_other (s : State) (b : Word) (k : Nat) (v : Byte) (h : physical b ≠ k) :
    readVal b (ramWrite k v s) = readVal b s := by
  have hr : ∀ j, k ≠ j → ramVal (ramWrite k v s) j = ramVal s j := by
    intro j hj; rw [ramVal_ramWrite, if_neg hj]
  simp only [readVal, ramWrite_bootOverlay, ramWrite_cfg]
  simp only [physical] at h
  rcases region_cases s.bootOverlay b with ⟨e, g⟩ | ⟨e, g⟩ | ⟨e, g⟩ | ⟨e, g⟩ | ⟨e, g⟩ | ⟨e, g⟩ | ⟨e, g⟩ | ⟨e, g⟩ | ⟨e, g⟩ | ⟨e, g⟩
  all_goals simp only [e]
  · rfl
  · rfl
  · exact hr _ (by split at h <;> omega)
  · exact hr _ (by split at h <;> omega)
  · exact hr _ (by split at h <;> omega)
  · exact hr _ (by split at h <;> omega)
  · rfl
  · exact hr _ (by split at h <;> omega)
  · rfl

end Sys2Proof.Machine
end

