-- ==== Sys2Proof/Laws/Invariant.lean ====
section
/-! SUPPORT. Every operation over memory keeps the canonical form of the stores, and the windows they hold. -/

namespace Sys2Proof.Machine

/-- The stores and cells of a state are canonical, and the stores list only addresses of their own: the first parts of the invariant. -/
structure Stored (s : State) : Prop where
  mem : s.mem.within (ramFill s.cfg.ramInit) isStorage = true
  image : s.cart.image.within none isCartWindow = true
  cells : s.cart.cells.wf (some 0) = true
  ext : s.ext.cells.wf (some 0) = true

theorem stored_reset : Stored State.reset := ⟨rfl, rfl, rfl, rfl⟩

/-- The stores of an access keep a device's cells canonical. -/
theorem deviceStores_wf (l : List DeviceStore) (a : Word) (v : Byte) (cells : Memory) (h : cells.wf (some 0) = true) :
    (deviceStores l a v cells).wf (some 0) = true := by
  unfold deviceStores
  suffices go : ∀ m : Memory, m.wf (some 0) = true →
      (l.foldl (fun m x => m.put (some 0) (evalExpr cells a v x.cell) (BitVec.ofNat 8 (evalExpr cells a v x.value))) m).wf (some 0)
        = true from go cells h
  induction l with
  | nil => exact fun _ hm => hm
  | cons x l ih => exact fun m hm => ih _ (Memory.wf_put _ m _ _ hm)

theorem runCart_stored (l : List DeviceStore) (a : Word) (v : Byte) (s : State) (h : Stored s) : Stored (runCart l a v s) :=
  ⟨h.mem, h.image, deviceStores_wf l a v _ h.cells, h.ext⟩

theorem runExt_stored (l : List DeviceStore) (a : Word) (v : Byte) (s : State) (h : Stored s) : Stored (runExt l a v s) :=
  ⟨h.mem, h.image, h.cells, deviceStores_wf l a v _ h.ext⟩

/-- A bus read keeps the stores canonical. -/
theorem afterRead_stored (a : Word) (s : State) (h : Stored s) : Stored (afterRead a s) := by
  obtain e | e | e | ⟨d, _, e⟩ | ⟨d, _, e⟩ := afterRead_cases a s <;> rw [e]
  · exact h
  · exact ⟨h.mem, h.image, h.cells, h.ext⟩
  · exact ⟨h.mem, h.image, h.cells, h.ext⟩
  · exact runCart_stored _ _ _ _ h
  · exact runExt_stored _ _ _ _ h

theorem ramWrite_stored (k : Nat) (v : Byte) (s : State) (hk : isStorage k = true) (h : Stored s) : Stored (ramWrite k v s) :=
  ⟨Memory.within_put _ _ _ _ _ hk h.mem, h.image, h.cells, h.ext⟩

theorem dmaCopy_stored (v : Byte) (s : State) (h : Stored s) : Stored (dmaCopy v s) :=
  dmaCopy_keeps Stored v s h (fun t i ht hi => by
    unfold dmaByte
    exact ramWrite_stored _ _ _ (by simp [isStorage]; omega) (afterRead_stored _ _ ht))

theorem dmaTrigger_stored (v : Byte) (s : State) (h : Stored s) : Stored (dmaTrigger v s) := by
  unfold dmaTrigger
  dsimp only
  split
  · exact dmaCopy_stored _ { s with dma := v } ⟨h.mem, h.image, h.cells, h.ext⟩
  · exact ⟨h.mem, h.image, h.cells, h.ext⟩

theorem extWrite_stored (a : Word) (v : Byte) (s : State) (h : Stored s) : Stored (extWrite a v s) := by
  unfold extWrite
  split
  · exact ⟨h.mem, h.image, h.cells, h.ext⟩
  · exact runExt_stored _ _ _ _ h

theorem ioWrite_stored (a : Word) (v : Byte) (s : State) (h : Stored s) : Stored (ioWrite a v s) := by
  unfold ioWrite
  split
  case h_1 => exact extWrite_stored _ _ _ h
  case h_13 => exact dmaTrigger_stored _ _ h
  case h_19 => split <;> exact ⟨h.mem, h.image, h.cells, h.ext⟩
  all_goals exact ⟨h.mem, h.image, h.cells, h.ext⟩

theorem cartWrite_stored (a : Word) (v : Byte) (s : State) (ha : isCartWindow a.toNat = true) (h : Stored s) :
    Stored (cartWrite a v s) := by
  unfold cartWrite
  split
  · exact ⟨h.mem, h.image, h.cells, h.ext⟩
  · split
    · exact ⟨h.mem, Memory.within_put none _ _ _ _ ha h.image, h.cells, h.ext⟩
    · exact h
  · exact runCart_stored _ _ _ _ h

/-- A bus write keeps the stores canonical. -/
theorem memWrite_stored (a : Word) (v : Byte) (s : State) (h : Stored s) : Stored (memWrite a v s) := by
  unfold memWrite
  rcases region_cases false a with ⟨e, g⟩ | ⟨e, g⟩ | ⟨e, g⟩ | ⟨e, g⟩ | ⟨e, g⟩ | ⟨e, g⟩ | ⟨e, g⟩ | ⟨e, g⟩ | ⟨e, g⟩ | ⟨e, g⟩ <;> simp only [e]
  · exact h
  · exact cartWrite_stored _ _ _ (by simp [isCartWindow]; omega) h
  · exact ramWrite_stored _ _ _ (by simp [isStorage]; omega) h
  · exact ramWrite_stored _ _ _ (by simp [isStorage]; omega) h
  · exact ramWrite_stored _ _ _ (by simp [isStorage]; omega) h
  · exact ramWrite_stored _ _ _ (by simp [isStorage]; omega) h
  · exact h
  · exact ioWrite_stored _ _ _ h
  · exact ramWrite_stored _ _ _ (by simp [isStorage]; omega) h
  · exact ⟨h.mem, h.image, h.cells, h.ext⟩

theorem writeWord_stored (a : Word) (w : Word) (s : State) (h : Stored s) : Stored (writeWord a w s) :=
  memWrite_stored _ _ _ (memWrite_stored _ _ _ h)

/-- Registers hold no store. -/
theorem Stored.withRegs {s : State} (h : Stored s) (r : Regs) : Stored { s with regs := r } := ⟨h.mem, h.image, h.cells, h.ext⟩

theorem push16_stored (w : Word) (s : State) (h : Stored s) : Stored (push16 w s) := by
  rw [push16_eq]
  exact (memWrite_stored _ _ _ (memWrite_stored _ _ _ h)).withRegs _

theorem popAfter_stored (s : State) (h : Stored s) : Stored (popAfter s) :=
  (afterRead_stored _ _ (afterRead_stored _ _ h)).withRegs _

theorem fetchInstr_stored (s : State) (h : Stored s) : Stored (fetchInstr s).2 := fetchBytes_keeps Stored afterRead_stored _ _ _ h

/-- A delivery of ticks touches no store. -/
theorem deliverTicks_stored (s : State) (h : Stored s) : Stored (deliverTicks s) := by
  unfold deliverTicks
  obtain ⟨_, _, _, _, _, _, _, hd⟩ := displayTick_cases s.out.ticks (timerTick s.out.ticks s)
  obtain ⟨_, _, _, ht, _⟩ := timerTick_cases s.out.ticks s
  rw [hd, ht]
  exact ⟨h.mem, h.image, h.cells, h.ext⟩

theorem takeInterrupt_stored (s : State) (h : Stored s) : Stored (takeInterrupt s) :=
  have p := push16_stored s.regs.pc s h
  ⟨p.mem, p.image, p.cells, p.ext⟩

end Sys2Proof.Machine
end

