-- ==== Sys2Proof/Laws/PerInstr.lean ====
section
/-! SUPPORT. The family `Length`, one lemma per instruction: the encoding is as long as the length that its first byte gives (R312). -/

namespace Sys2Proof.Laws.Length

/-- The encoding of `i` is exactly as long as its first byte says, under each value of `STOP_LENGTH`. -/
def Statement (i : Instr) : Prop := ∀ sl : StopLength, (encode sl i).length = instrLength sl ((encode sl i).headD 0)

theorem ldBC_N16 (nn : Word) : Statement (.ldBC_N16 nn) := fun sl => show 3 = Row.length sl (baseRow 0x01) from rfl
theorem ldB_N8 (n : Byte) : Statement (.ldB_N8 n) := fun sl => show 2 = Row.length sl (baseRow 0x06) from rfl
theorem ldIndA16_SP (aa : Word) : Statement (.ldIndA16_SP aa) := fun sl => show 3 = Row.length sl (baseRow 0x08) from rfl
theorem ldC_N8 (n : Byte) : Statement (.ldC_N8 n) := fun sl => show 2 = Row.length sl (baseRow 0x0E) from rfl
theorem ldDE_N16 (nn : Word) : Statement (.ldDE_N16 nn) := fun sl => show 3 = Row.length sl (baseRow 0x11) from rfl
theorem ldD_N8 (n : Byte) : Statement (.ldD_N8 n) := fun sl => show 2 = Row.length sl (baseRow 0x16) from rfl
theorem jrE8 (e : Byte) : Statement (.jrE8 e) := fun sl => show 2 = Row.length sl (baseRow 0x18) from rfl
theorem ldE_N8 (n : Byte) : Statement (.ldE_N8 n) := fun sl => show 2 = Row.length sl (baseRow 0x1E) from rfl
theorem jrNZ_E8 (e : Byte) : Statement (.jrNZ_E8 e) := fun sl => show 2 = Row.length sl (baseRow 0x20) from rfl
theorem ldHL_N16 (nn : Word) : Statement (.ldHL_N16 nn) := fun sl => show 3 = Row.length sl (baseRow 0x21) from rfl
theorem ldH_N8 (n : Byte) : Statement (.ldH_N8 n) := fun sl => show 2 = Row.length sl (baseRow 0x26) from rfl
theorem jrZ_E8 (e : Byte) : Statement (.jrZ_E8 e) := fun sl => show 2 = Row.length sl (baseRow 0x28) from rfl
theorem ldL_N8 (n : Byte) : Statement (.ldL_N8 n) := fun sl => show 2 = Row.length sl (baseRow 0x2E) from rfl
theorem jrNC_E8 (e : Byte) : Statement (.jrNC_E8 e) := fun sl => show 2 = Row.length sl (baseRow 0x30) from rfl
theorem ldSP_N16 (nn : Word) : Statement (.ldSP_N16 nn) := fun sl => show 3 = Row.length sl (baseRow 0x31) from rfl
theorem ldIndHL_N8 (n : Byte) : Statement (.ldIndHL_N8 n) := fun sl => show 2 = Row.length sl (baseRow 0x36) from rfl
theorem jrC_E8 (e : Byte) : Statement (.jrC_E8 e) := fun sl => show 2 = Row.length sl (baseRow 0x38) from rfl
theorem ldA_N8 (n : Byte) : Statement (.ldA_N8 n) := fun sl => show 2 = Row.length sl (baseRow 0x3E) from rfl
theorem jpNZ_A16 (aa : Word) : Statement (.jpNZ_A16 aa) := fun sl => show 3 = Row.length sl (baseRow 0xC2) from rfl
theorem jpA16 (aa : Word) : Statement (.jpA16 aa) := fun sl => show 3 = Row.length sl (baseRow 0xC3) from rfl
theorem callNZ_A16 (aa : Word) : Statement (.callNZ_A16 aa) := fun sl => show 3 = Row.length sl (baseRow 0xC4) from rfl
theorem addA_N8 (n : Byte) : Statement (.addA_N8 n) := fun sl => show 2 = Row.length sl (baseRow 0xC6) from rfl
theorem jpZ_A16 (aa : Word) : Statement (.jpZ_A16 aa) := fun sl => show 3 = Row.length sl (baseRow 0xCA) from rfl
theorem prefixCb (cb : Byte) : Statement (.prefixCb cb) := fun sl => show 2 = Row.length sl (baseRow 0xCB) from rfl
theorem callZ_A16 (aa : Word) : Statement (.callZ_A16 aa) := fun sl => show 3 = Row.length sl (baseRow 0xCC) from rfl
theorem callA16 (aa : Word) : Statement (.callA16 aa) := fun sl => show 3 = Row.length sl (baseRow 0xCD) from rfl
theorem adcA_N8 (n : Byte) : Statement (.adcA_N8 n) := fun sl => show 2 = Row.length sl (baseRow 0xCE) from rfl
theorem jpNC_A16 (aa : Word) : Statement (.jpNC_A16 aa) := fun sl => show 3 = Row.length sl (baseRow 0xD2) from rfl
theorem callNC_A16 (aa : Word) : Statement (.callNC_A16 aa) := fun sl => show 3 = Row.length sl (baseRow 0xD4) from rfl
theorem subA_N8 (n : Byte) : Statement (.subA_N8 n) := fun sl => show 2 = Row.length sl (baseRow 0xD6) from rfl
theorem jpC_A16 (aa : Word) : Statement (.jpC_A16 aa) := fun sl => show 3 = Row.length sl (baseRow 0xDA) from rfl
theorem callC_A16 (aa : Word) : Statement (.callC_A16 aa) := fun sl => show 3 = Row.length sl (baseRow 0xDC) from rfl
theorem sbcA_N8 (n : Byte) : Statement (.sbcA_N8 n) := fun sl => show 2 = Row.length sl (baseRow 0xDE) from rfl
theorem ldhIndA8_A (a : Byte) : Statement (.ldhIndA8_A a) := fun sl => show 2 = Row.length sl (baseRow 0xE0) from rfl
theorem andA_N8 (n : Byte) : Statement (.andA_N8 n) := fun sl => show 2 = Row.length sl (baseRow 0xE6) from rfl
theorem addSP_E8 (e : Byte) : Statement (.addSP_E8 e) := fun sl => show 2 = Row.length sl (baseRow 0xE8) from rfl
theorem ldIndA16_A (aa : Word) : Statement (.ldIndA16_A aa) := fun sl => show 3 = Row.length sl (baseRow 0xEA) from rfl
theorem xorA_N8 (n : Byte) : Statement (.xorA_N8 n) := fun sl => show 2 = Row.length sl (baseRow 0xEE) from rfl
theorem ldhA_IndA8 (a : Byte) : Statement (.ldhA_IndA8 a) := fun sl => show 2 = Row.length sl (baseRow 0xF0) from rfl
theorem orA_N8 (n : Byte) : Statement (.orA_N8 n) := fun sl => show 2 = Row.length sl (baseRow 0xF6) from rfl
theorem ldHL_SPE8 (e : Byte) : Statement (.ldHL_SPE8 e) := fun sl => show 2 = Row.length sl (baseRow 0xF8) from rfl
theorem ldA_IndA16 (aa : Word) : Statement (.ldA_IndA16 aa) := fun sl => show 3 = Row.length sl (baseRow 0xFA) from rfl
theorem cpA_N8 (n : Byte) : Statement (.cpA_N8 n) := fun sl => show 2 = Row.length sl (baseRow 0xFE) from rfl
theorem nop : Statement .nop := fun sl => show 1 = Row.length sl (baseRow 0x00) from rfl
theorem ldIndBC_A : Statement .ldIndBC_A := fun sl => show 1 = Row.length sl (baseRow 0x02) from rfl
theorem incBC : Statement .incBC := fun sl => show 1 = Row.length sl (baseRow 0x03) from rfl
theorem incB : Statement .incB := fun sl => show 1 = Row.length sl (baseRow 0x04) from rfl
theorem decB : Statement .decB := fun sl => show 1 = Row.length sl (baseRow 0x05) from rfl
theorem rlca : Statement .rlca := fun sl => show 1 = Row.length sl (baseRow 0x07) from rfl
theorem addHL_BC : Statement .addHL_BC := fun sl => show 1 = Row.length sl (baseRow 0x09) from rfl
theorem ldA_IndBC : Statement .ldA_IndBC := fun sl => show 1 = Row.length sl (baseRow 0x0A) from rfl
theorem decBC : Statement .decBC := fun sl => show 1 = Row.length sl (baseRow 0x0B) from rfl
theorem incC : Statement .incC := fun sl => show 1 = Row.length sl (baseRow 0x0C) from rfl
theorem decC : Statement .decC := fun sl => show 1 = Row.length sl (baseRow 0x0D) from rfl
theorem rrca : Statement .rrca := fun sl => show 1 = Row.length sl (baseRow 0x0F) from rfl
theorem stop : Statement .stop := fun sl => by cases sl <;> rfl
theorem ldIndDE_A : Statement .ldIndDE_A := fun sl => show 1 = Row.length sl (baseRow 0x12) from rfl
theorem incDE : Statement .incDE := fun sl => show 1 = Row.length sl (baseRow 0x13) from rfl
theorem incD : Statement .incD := fun sl => show 1 = Row.length sl (baseRow 0x14) from rfl
theorem decD : Statement .decD := fun sl => show 1 = Row.length sl (baseRow 0x15) from rfl
theorem rla : Statement .rla := fun sl => show 1 = Row.length sl (baseRow 0x17) from rfl
theorem addHL_DE : Statement .addHL_DE := fun sl => show 1 = Row.length sl (baseRow 0x19) from rfl
theorem ldA_IndDE : Statement .ldA_IndDE := fun sl => show 1 = Row.length sl (baseRow 0x1A) from rfl
theorem decDE : Statement .decDE := fun sl => show 1 = Row.length sl (baseRow 0x1B) from rfl
theorem incE : Statement .incE := fun sl => show 1 = Row.length sl (baseRow 0x1C) from rfl
theorem decE : Statement .decE := fun sl => show 1 = Row.length sl (baseRow 0x1D) from rfl
theorem rra : Statement .rra := fun sl => show 1 = Row.length sl (baseRow 0x1F) from rfl
theorem ldIndHLInc_A : Statement .ldIndHLInc_A := fun sl => show 1 = Row.length sl (baseRow 0x22) from rfl
theorem incHL : Statement .incHL := fun sl => show 1 = Row.length sl (baseRow 0x23) from rfl
theorem incH : Statement .incH := fun sl => show 1 = Row.length sl (baseRow 0x24) from rfl
theorem decH : Statement .decH := fun sl => show 1 = Row.length sl (baseRow 0x25) from rfl
theorem daa : Statement .daa := fun sl => show 1 = Row.length sl (baseRow 0x27) from rfl
theorem addHL_HL : Statement .addHL_HL := fun sl => show 1 = Row.length sl (baseRow 0x29) from rfl
theorem ldA_IndHLInc : Statement .ldA_IndHLInc := fun sl => show 1 = Row.length sl (baseRow 0x2A) from rfl
theorem decHL : Statement .decHL := fun sl => show 1 = Row.length sl (baseRow 0x2B) from rfl
theorem incL : Statement .incL := fun sl => show 1 = Row.length sl (baseRow 0x2C) from rfl
theorem decL : Statement .decL := fun sl => show 1 = Row.length sl (baseRow 0x2D) from rfl
theorem cpl : Statement .cpl := fun sl => show 1 = Row.length sl (baseRow 0x2F) from rfl
theorem ldIndHLDec_A : Statement .ldIndHLDec_A := fun sl => show 1 = Row.length sl (baseRow 0x32) from rfl
theorem incSP : Statement .incSP := fun sl => show 1 = Row.length sl (baseRow 0x33) from rfl
theorem incIndHL : Statement .incIndHL := fun sl => show 1 = Row.length sl (baseRow 0x34) from rfl
theorem decIndHL : Statement .decIndHL := fun sl => show 1 = Row.length sl (baseRow 0x35) from rfl
theorem scf : Statement .scf := fun sl => show 1 = Row.length sl (baseRow 0x37) from rfl
theorem addHL_SP : Statement .addHL_SP := fun sl => show 1 = Row.length sl (baseRow 0x39) from rfl
theorem ldA_IndHLDec : Statement .ldA_IndHLDec := fun sl => show 1 = Row.length sl (baseRow 0x3A) from rfl
theorem decSP : Statement .decSP := fun sl => show 1 = Row.length sl (baseRow 0x3B) from rfl
theorem incA : Statement .incA := fun sl => show 1 = Row.length sl (baseRow 0x3C) from rfl
theorem decA : Statement .decA := fun sl => show 1 = Row.length sl (baseRow 0x3D) from rfl
theorem ccf : Statement .ccf := fun sl => show 1 = Row.length sl (baseRow 0x3F) from rfl
theorem ldB_B : Statement .ldB_B := fun sl => show 1 = Row.length sl (baseRow 0x40) from rfl
theorem ldB_C : Statement .ldB_C := fun sl => show 1 = Row.length sl (baseRow 0x41) from rfl
theorem ldB_D : Statement .ldB_D := fun sl => show 1 = Row.length sl (baseRow 0x42) from rfl
theorem ldB_E : Statement .ldB_E := fun sl => show 1 = Row.length sl (baseRow 0x43) from rfl
theorem ldB_H : Statement .ldB_H := fun sl => show 1 = Row.length sl (baseRow 0x44) from rfl
theorem ldB_L : Statement .ldB_L := fun sl => show 1 = Row.length sl (baseRow 0x45) from rfl
theorem ldB_IndHL : Statement .ldB_IndHL := fun sl => show 1 = Row.length sl (baseRow 0x46) from rfl
theorem ldB_A : Statement .ldB_A := fun sl => show 1 = Row.length sl (baseRow 0x47) from rfl
theorem ldC_B : Statement .ldC_B := fun sl => show 1 = Row.length sl (baseRow 0x48) from rfl
theorem ldC_C : Statement .ldC_C := fun sl => show 1 = Row.length sl (baseRow 0x49) from rfl
theorem ldC_D : Statement .ldC_D := fun sl => show 1 = Row.length sl (baseRow 0x4A) from rfl
theorem ldC_E : Statement .ldC_E := fun sl => show 1 = Row.length sl (baseRow 0x4B) from rfl
theorem ldC_H : Statement .ldC_H := fun sl => show 1 = Row.length sl (baseRow 0x4C) from rfl
theorem ldC_L : Statement .ldC_L := fun sl => show 1 = Row.length sl (baseRow 0x4D) from rfl
theorem ldC_IndHL : Statement .ldC_IndHL := fun sl => show 1 = Row.length sl (baseRow 0x4E) from rfl
theorem ldC_A : Statement .ldC_A := fun sl => show 1 = Row.length sl (baseRow 0x4F) from rfl
theorem ldD_B : Statement .ldD_B := fun sl => show 1 = Row.length sl (baseRow 0x50) from rfl
theorem ldD_C : Statement .ldD_C := fun sl => show 1 = Row.length sl (baseRow 0x51) from rfl
theorem ldD_D : Statement .ldD_D := fun sl => show 1 = Row.length sl (baseRow 0x52) from rfl
theorem ldD_E : Statement .ldD_E := fun sl => show 1 = Row.length sl (baseRow 0x53) from rfl
theorem ldD_H : Statement .ldD_H := fun sl => show 1 = Row.length sl (baseRow 0x54) from rfl
theorem ldD_L : Statement .ldD_L := fun sl => show 1 = Row.length sl (baseRow 0x55) from rfl
theorem ldD_IndHL : Statement .ldD_IndHL := fun sl => show 1 = Row.length sl (baseRow 0x56) from rfl
theorem ldD_A : Statement .ldD_A := fun sl => show 1 = Row.length sl (baseRow 0x57) from rfl
theorem ldE_B : Statement .ldE_B := fun sl => show 1 = Row.length sl (baseRow 0x58) from rfl
theorem ldE_C : Statement .ldE_C := fun sl => show 1 = Row.length sl (baseRow 0x59) from rfl
theorem ldE_D : Statement .ldE_D := fun sl => show 1 = Row.length sl (baseRow 0x5A) from rfl
theorem ldE_E : Statement .ldE_E := fun sl => show 1 = Row.length sl (baseRow 0x5B) from rfl
theorem ldE_H : Statement .ldE_H := fun sl => show 1 = Row.length sl (baseRow 0x5C) from rfl
theorem ldE_L : Statement .ldE_L := fun sl => show 1 = Row.length sl (baseRow 0x5D) from rfl
theorem ldE_IndHL : Statement .ldE_IndHL := fun sl => show 1 = Row.length sl (baseRow 0x5E) from rfl
theorem ldE_A : Statement .ldE_A := fun sl => show 1 = Row.length sl (baseRow 0x5F) from rfl
theorem ldH_B : Statement .ldH_B := fun sl => show 1 = Row.length sl (baseRow 0x60) from rfl
theorem ldH_C : Statement .ldH_C := fun sl => show 1 = Row.length sl (baseRow 0x61) from rfl
theorem ldH_D : Statement .ldH_D := fun sl => show 1 = Row.length sl (baseRow 0x62) from rfl
theorem ldH_E : Statement .ldH_E := fun sl => show 1 = Row.length sl (baseRow 0x63) from rfl
theorem ldH_H : Statement .ldH_H := fun sl => show 1 = Row.length sl (baseRow 0x64) from rfl
theorem ldH_L : Statement .ldH_L := fun sl => show 1 = Row.length sl (baseRow 0x65) from rfl
theorem ldH_IndHL : Statement .ldH_IndHL := fun sl => show 1 = Row.length sl (baseRow 0x66) from rfl
theorem ldH_A : Statement .ldH_A := fun sl => show 1 = Row.length sl (baseRow 0x67) from rfl
theorem ldL_B : Statement .ldL_B := fun sl => show 1 = Row.length sl (baseRow 0x68) from rfl
theorem ldL_C : Statement .ldL_C := fun sl => show 1 = Row.length sl (baseRow 0x69) from rfl
theorem ldL_D : Statement .ldL_D := fun sl => show 1 = Row.length sl (baseRow 0x6A) from rfl
theorem ldL_E : Statement .ldL_E := fun sl => show 1 = Row.length sl (baseRow 0x6B) from rfl
theorem ldL_H : Statement .ldL_H := fun sl => show 1 = Row.length sl (baseRow 0x6C) from rfl
theorem ldL_L : Statement .ldL_L := fun sl => show 1 = Row.length sl (baseRow 0x6D) from rfl
theorem ldL_IndHL : Statement .ldL_IndHL := fun sl => show 1 = Row.length sl (baseRow 0x6E) from rfl
theorem ldL_A : Statement .ldL_A := fun sl => show 1 = Row.length sl (baseRow 0x6F) from rfl
theorem ldIndHL_B : Statement .ldIndHL_B := fun sl => show 1 = Row.length sl (baseRow 0x70) from rfl
theorem ldIndHL_C : Statement .ldIndHL_C := fun sl => show 1 = Row.length sl (baseRow 0x71) from rfl
theorem ldIndHL_D : Statement .ldIndHL_D := fun sl => show 1 = Row.length sl (baseRow 0x72) from rfl
theorem ldIndHL_E : Statement .ldIndHL_E := fun sl => show 1 = Row.length sl (baseRow 0x73) from rfl
theorem ldIndHL_H : Statement .ldIndHL_H := fun sl => show 1 = Row.length sl (baseRow 0x74) from rfl
theorem ldIndHL_L : Statement .ldIndHL_L := fun sl => show 1 = Row.length sl (baseRow 0x75) from rfl
theorem halt : Statement .halt := fun sl => show 1 = Row.length sl (baseRow 0x76) from rfl
theorem ldIndHL_A : Statement .ldIndHL_A := fun sl => show 1 = Row.length sl (baseRow 0x77) from rfl
theorem ldA_B : Statement .ldA_B := fun sl => show 1 = Row.length sl (baseRow 0x78) from rfl
theorem ldA_C : Statement .ldA_C := fun sl => show 1 = Row.length sl (baseRow 0x79) from rfl
theorem ldA_D : Statement .ldA_D := fun sl => show 1 = Row.length sl (baseRow 0x7A) from rfl
theorem ldA_E : Statement .ldA_E := fun sl => show 1 = Row.length sl (baseRow 0x7B) from rfl
theorem ldA_H : Statement .ldA_H := fun sl => show 1 = Row.length sl (baseRow 0x7C) from rfl
theorem ldA_L : Statement .ldA_L := fun sl => show 1 = Row.length sl (baseRow 0x7D) from rfl
theorem ldA_IndHL : Statement .ldA_IndHL := fun sl => show 1 = Row.length sl (baseRow 0x7E) from rfl
theorem ldA_A : Statement .ldA_A := fun sl => show 1 = Row.length sl (baseRow 0x7F) from rfl
theorem addA_B : Statement .addA_B := fun sl => show 1 = Row.length sl (baseRow 0x80) from rfl
theorem addA_C : Statement .addA_C := fun sl => show 1 = Row.length sl (baseRow 0x81) from rfl
theorem addA_D : Statement .addA_D := fun sl => show 1 = Row.length sl (baseRow 0x82) from rfl
theorem addA_E : Statement .addA_E := fun sl => show 1 = Row.length sl (baseRow 0x83) from rfl
theorem addA_H : Statement .addA_H := fun sl => show 1 = Row.length sl (baseRow 0x84) from rfl
theorem addA_L : Statement .addA_L := fun sl => show 1 = Row.length sl (baseRow 0x85) from rfl
theorem addA_IndHL : Statement .addA_IndHL := fun sl => show 1 = Row.length sl (baseRow 0x86) from rfl
theorem addA_A : Statement .addA_A := fun sl => show 1 = Row.length sl (baseRow 0x87) from rfl
theorem adcA_B : Statement .adcA_B := fun sl => show 1 = Row.length sl (baseRow 0x88) from rfl
theorem adcA_C : Statement .adcA_C := fun sl => show 1 = Row.length sl (baseRow 0x89) from rfl
theorem adcA_D : Statement .adcA_D := fun sl => show 1 = Row.length sl (baseRow 0x8A) from rfl
theorem adcA_E : Statement .adcA_E := fun sl => show 1 = Row.length sl (baseRow 0x8B) from rfl
theorem adcA_H : Statement .adcA_H := fun sl => show 1 = Row.length sl (baseRow 0x8C) from rfl
theorem adcA_L : Statement .adcA_L := fun sl => show 1 = Row.length sl (baseRow 0x8D) from rfl
theorem adcA_IndHL : Statement .adcA_IndHL := fun sl => show 1 = Row.length sl (baseRow 0x8E) from rfl
theorem adcA_A : Statement .adcA_A := fun sl => show 1 = Row.length sl (baseRow 0x8F) from rfl
theorem subA_B : Statement .subA_B := fun sl => show 1 = Row.length sl (baseRow 0x90) from rfl
theorem subA_C : Statement .subA_C := fun sl => show 1 = Row.length sl (baseRow 0x91) from rfl
theorem subA_D : Statement .subA_D := fun sl => show 1 = Row.length sl (baseRow 0x92) from rfl
theorem subA_E : Statement .subA_E := fun sl => show 1 = Row.length sl (baseRow 0x93) from rfl
theorem subA_H : Statement .subA_H := fun sl => show 1 = Row.length sl (baseRow 0x94) from rfl
theorem subA_L : Statement .subA_L := fun sl => show 1 = Row.length sl (baseRow 0x95) from rfl
theorem subA_IndHL : Statement .subA_IndHL := fun sl => show 1 = Row.length sl (baseRow 0x96) from rfl
theorem subA_A : Statement .subA_A := fun sl => show 1 = Row.length sl (baseRow 0x97) from rfl
theorem sbcA_B : Statement .sbcA_B := fun sl => show 1 = Row.length sl (baseRow 0x98) from rfl
theorem sbcA_C : Statement .sbcA_C := fun sl => show 1 = Row.length sl (baseRow 0x99) from rfl
theorem sbcA_D : Statement .sbcA_D := fun sl => show 1 = Row.length sl (baseRow 0x9A) from rfl
theorem sbcA_E : Statement .sbcA_E := fun sl => show 1 = Row.length sl (baseRow 0x9B) from rfl
theorem sbcA_H : Statement .sbcA_H := fun sl => show 1 = Row.length sl (baseRow 0x9C) from rfl
theorem sbcA_L : Statement .sbcA_L := fun sl => show 1 = Row.length sl (baseRow 0x9D) from rfl
theorem sbcA_IndHL : Statement .sbcA_IndHL := fun sl => show 1 = Row.length sl (baseRow 0x9E) from rfl
theorem sbcA_A : Statement .sbcA_A := fun sl => show 1 = Row.length sl (baseRow 0x9F) from rfl
theorem andA_B : Statement .andA_B := fun sl => show 1 = Row.length sl (baseRow 0xA0) from rfl
theorem andA_C : Statement .andA_C := fun sl => show 1 = Row.length sl (baseRow 0xA1) from rfl
theorem andA_D : Statement .andA_D := fun sl => show 1 = Row.length sl (baseRow 0xA2) from rfl
theorem andA_E : Statement .andA_E := fun sl => show 1 = Row.length sl (baseRow 0xA3) from rfl
theorem andA_H : Statement .andA_H := fun sl => show 1 = Row.length sl (baseRow 0xA4) from rfl
theorem andA_L : Statement .andA_L := fun sl => show 1 = Row.length sl (baseRow 0xA5) from rfl
theorem andA_IndHL : Statement .andA_IndHL := fun sl => show 1 = Row.length sl (baseRow 0xA6) from rfl
theorem andA_A : Statement .andA_A := fun sl => show 1 = Row.length sl (baseRow 0xA7) from rfl
theorem xorA_B : Statement .xorA_B := fun sl => show 1 = Row.length sl (baseRow 0xA8) from rfl
theorem xorA_C : Statement .xorA_C := fun sl => show 1 = Row.length sl (baseRow 0xA9) from rfl
theorem xorA_D : Statement .xorA_D := fun sl => show 1 = Row.length sl (baseRow 0xAA) from rfl
theorem xorA_E : Statement .xorA_E := fun sl => show 1 = Row.length sl (baseRow 0xAB) from rfl
theorem xorA_H : Statement .xorA_H := fun sl => show 1 = Row.length sl (baseRow 0xAC) from rfl
theorem xorA_L : Statement .xorA_L := fun sl => show 1 = Row.length sl (baseRow 0xAD) from rfl
theorem xorA_IndHL : Statement .xorA_IndHL := fun sl => show 1 = Row.length sl (baseRow 0xAE) from rfl
theorem xorA_A : Statement .xorA_A := fun sl => show 1 = Row.length sl (baseRow 0xAF) from rfl
theorem orA_B : Statement .orA_B := fun sl => show 1 = Row.length sl (baseRow 0xB0) from rfl
theorem orA_C : Statement .orA_C := fun sl => show 1 = Row.length sl (baseRow 0xB1) from rfl
theorem orA_D : Statement .orA_D := fun sl => show 1 = Row.length sl (baseRow 0xB2) from rfl
theorem orA_E : Statement .orA_E := fun sl => show 1 = Row.length sl (baseRow 0xB3) from rfl
theorem orA_H : Statement .orA_H := fun sl => show 1 = Row.length sl (baseRow 0xB4) from rfl
theorem orA_L : Statement .orA_L := fun sl => show 1 = Row.length sl (baseRow 0xB5) from rfl
theorem orA_IndHL : Statement .orA_IndHL := fun sl => show 1 = Row.length sl (baseRow 0xB6) from rfl
theorem orA_A : Statement .orA_A := fun sl => show 1 = Row.length sl (baseRow 0xB7) from rfl
theorem cpA_B : Statement .cpA_B := fun sl => show 1 = Row.length sl (baseRow 0xB8) from rfl
theorem cpA_C : Statement .cpA_C := fun sl => show 1 = Row.length sl (baseRow 0xB9) from rfl
theorem cpA_D : Statement .cpA_D := fun sl => show 1 = Row.length sl (baseRow 0xBA) from rfl
theorem cpA_E : Statement .cpA_E := fun sl => show 1 = Row.length sl (baseRow 0xBB) from rfl
theorem cpA_H : Statement .cpA_H := fun sl => show 1 = Row.length sl (baseRow 0xBC) from rfl
theorem cpA_L : Statement .cpA_L := fun sl => show 1 = Row.length sl (baseRow 0xBD) from rfl
theorem cpA_IndHL : Statement .cpA_IndHL := fun sl => show 1 = Row.length sl (baseRow 0xBE) from rfl
theorem cpA_A : Statement .cpA_A := fun sl => show 1 = Row.length sl (baseRow 0xBF) from rfl
theorem retNZ : Statement .retNZ := fun sl => show 1 = Row.length sl (baseRow 0xC0) from rfl
theorem popBC : Statement .popBC := fun sl => show 1 = Row.length sl (baseRow 0xC1) from rfl
theorem pushBC : Statement .pushBC := fun sl => show 1 = Row.length sl (baseRow 0xC5) from rfl
theorem rst00 : Statement .rst00 := fun sl => show 1 = Row.length sl (baseRow 0xC7) from rfl
theorem retZ : Statement .retZ := fun sl => show 1 = Row.length sl (baseRow 0xC8) from rfl
theorem ret : Statement .ret := fun sl => show 1 = Row.length sl (baseRow 0xC9) from rfl
theorem rst08 : Statement .rst08 := fun sl => show 1 = Row.length sl (baseRow 0xCF) from rfl
theorem retNC : Statement .retNC := fun sl => show 1 = Row.length sl (baseRow 0xD0) from rfl
theorem popDE : Statement .popDE := fun sl => show 1 = Row.length sl (baseRow 0xD1) from rfl
theorem undefinedD3 : Statement .undefinedD3 := fun sl => show 1 = Row.length sl (baseRow 0xD3) from rfl
theorem pushDE : Statement .pushDE := fun sl => show 1 = Row.length sl (baseRow 0xD5) from rfl
theorem rst10 : Statement .rst10 := fun sl => show 1 = Row.length sl (baseRow 0xD7) from rfl
theorem retC : Statement .retC := fun sl => show 1 = Row.length sl (baseRow 0xD8) from rfl
theorem reti : Statement .reti := fun sl => show 1 = Row.length sl (baseRow 0xD9) from rfl
theorem undefinedDB : Statement .undefinedDB := fun sl => show 1 = Row.length sl (baseRow 0xDB) from rfl
theorem undefinedDD : Statement .undefinedDD := fun sl => show 1 = Row.length sl (baseRow 0xDD) from rfl
theorem rst18 : Statement .rst18 := fun sl => show 1 = Row.length sl (baseRow 0xDF) from rfl
theorem popHL : Statement .popHL := fun sl => show 1 = Row.length sl (baseRow 0xE1) from rfl
theorem ldIndC_A : Statement .ldIndC_A := fun sl => show 1 = Row.length sl (baseRow 0xE2) from rfl
theorem undefinedE3 : Statement .undefinedE3 := fun sl => show 1 = Row.length sl (baseRow 0xE3) from rfl
theorem undefinedE4 : Statement .undefinedE4 := fun sl => show 1 = Row.length sl (baseRow 0xE4) from rfl
theorem pushHL : Statement .pushHL := fun sl => show 1 = Row.length sl (baseRow 0xE5) from rfl
theorem rst20 : Statement .rst20 := fun sl => show 1 = Row.length sl (baseRow 0xE7) from rfl
theorem jpHL : Statement .jpHL := fun sl => show 1 = Row.length sl (baseRow 0xE9) from rfl
theorem undefinedEB : Statement .undefinedEB := fun sl => show 1 = Row.length sl (baseRow 0xEB) from rfl
theorem undefinedEC : Statement .undefinedEC := fun sl => show 1 = Row.length sl (baseRow 0xEC) from rfl
theorem undefinedED : Statement .undefinedED := fun sl => show 1 = Row.length sl (baseRow 0xED) from rfl
theorem rst28 : Statement .rst28 := fun sl => show 1 = Row.length sl (baseRow 0xEF) from rfl
theorem popAF : Statement .popAF := fun sl => show 1 = Row.length sl (baseRow 0xF1) from rfl
theorem ldA_IndC : Statement .ldA_IndC := fun sl => show 1 = Row.length sl (baseRow 0xF2) from rfl
theorem di : Statement .di := fun sl => show 1 = Row.length sl (baseRow 0xF3) from rfl
theorem undefinedF4 : Statement .undefinedF4 := fun sl => show 1 = Row.length sl (baseRow 0xF4) from rfl
theorem pushAF : Statement .pushAF := fun sl => show 1 = Row.length sl (baseRow 0xF5) from rfl
theorem rst30 : Statement .rst30 := fun sl => show 1 = Row.length sl (baseRow 0xF7) from rfl
theorem ldSP_HL : Statement .ldSP_HL := fun sl => show 1 = Row.length sl (baseRow 0xF9) from rfl
theorem ei : Statement .ei := fun sl => show 1 = Row.length sl (baseRow 0xFB) from rfl
theorem undefinedFC : Statement .undefinedFC := fun sl => show 1 = Row.length sl (baseRow 0xFC) from rfl
theorem undefinedFD : Statement .undefinedFD := fun sl => show 1 = Row.length sl (baseRow 0xFD) from rfl
theorem rst38 : Statement .rst38 := fun sl => show 1 = Row.length sl (baseRow 0xFF) from rfl
theorem rlcB : Statement .rlcB := fun sl => show 2 = Row.length sl (baseRow 0xCB) from rfl
theorem rlcC : Statement .rlcC := fun sl => show 2 = Row.length sl (baseRow 0xCB) from rfl
theorem rlcD : Statement .rlcD := fun sl => show 2 = Row.length sl (baseRow 0xCB) from rfl
theorem rlcE : Statement .rlcE := fun sl => show 2 = Row.length sl (baseRow 0xCB) from rfl
theorem rlcH : Statement .rlcH := fun sl => show 2 = Row.length sl (baseRow 0xCB) from rfl
theorem rlcL : Statement .rlcL := fun sl => show 2 = Row.length sl (baseRow 0xCB) from rfl
theorem rlcIndHL : Statement .rlcIndHL := fun sl => show 2 = Row.length sl (baseRow 0xCB) from rfl
theorem rlcA : Statement .rlcA := fun sl => show 2 = Row.length sl (baseRow 0xCB) from rfl
theorem rrcB : Statement .rrcB := fun sl => show 2 = Row.length sl (baseRow 0xCB) from rfl
theorem rrcC : Statement .rrcC := fun sl => show 2 = Row.length sl (baseRow 0xCB) from rfl
theorem rrcD : Statement .rrcD := fun sl => show 2 = Row.length sl (baseRow 0xCB) from rfl
theorem rrcE : Statement .rrcE := fun sl => show 2 = Row.length sl (baseRow 0xCB) from rfl
theorem rrcH : Statement .rrcH := fun sl => show 2 = Row.length sl (baseRow 0xCB) from rfl
theorem rrcL : Statement .rrcL := fun sl => show 2 = Row.length sl (baseRow 0xCB) from rfl
theorem rrcIndHL : Statement .rrcIndHL := fun sl => show 2 = Row.length sl (baseRow 0xCB) from rfl
theorem rrcA : Statement .rrcA := fun sl => show 2 = Row.length sl (baseRow 0xCB) from rfl
theorem rlB : Statement .rlB := fun sl => show 2 = Row.length sl (baseRow 0xCB) from rfl
theorem rlC : Statement .rlC := fun sl => show 2 = Row.length sl (baseRow 0xCB) from rfl
theorem rlD : Statement .rlD := fun sl => show 2 = Row.length sl (baseRow 0xCB) from rfl
theorem rlE : Statement .rlE := fun sl => show 2 = Row.length sl (baseRow 0xCB) from rfl
theorem rlH : Statement .rlH := fun sl => show 2 = Row.length sl (baseRow 0xCB) from rfl
theorem rlL : Statement .rlL := fun sl => show 2 = Row.length sl (baseRow 0xCB) from rfl
theorem rlIndHL : Statement .rlIndHL := fun sl => show 2 = Row.length sl (baseRow 0xCB) from rfl
theorem rlA : Statement .rlA := fun sl => show 2 = Row.length sl (baseRow 0xCB) from rfl
theorem rrB : Statement .rrB := fun sl => show 2 = Row.length sl (baseRow 0xCB) from rfl
theorem rrC : Statement .rrC := fun sl => show 2 = Row.length sl (baseRow 0xCB) from rfl
theorem rrD : Statement .rrD := fun sl => show 2 = Row.length sl (baseRow 0xCB) from rfl
theorem rrE : Statement .rrE := fun sl => show 2 = Row.length sl (baseRow 0xCB) from rfl
theorem rrH : Statement .rrH := fun sl => show 2 = Row.length sl (baseRow 0xCB) from rfl
theorem rrL : Statement .rrL := fun sl => show 2 = Row.length sl (baseRow 0xCB) from rfl
theorem rrIndHL : Statement .rrIndHL := fun sl => show 2 = Row.length sl (baseRow 0xCB) from rfl
theorem rrA : Statement .rrA := fun sl => show 2 = Row.length sl (baseRow 0xCB) from rfl
theorem slaB : Statement .slaB := fun sl => show 2 = Row.length sl (baseRow 0xCB) from rfl
theorem slaC : Statement .slaC := fun sl => show 2 = Row.length sl (baseRow 0xCB) from rfl
theorem slaD : Statement .slaD := fun sl => show 2 = Row.length sl (baseRow 0xCB) from rfl
theorem slaE : Statement .slaE := fun sl => show 2 = Row.length sl (baseRow 0xCB) from rfl
theorem slaH : Statement .slaH := fun sl => show 2 = Row.length sl (baseRow 0xCB) from rfl
theorem slaL : Statement .slaL := fun sl => show 2 = Row.length sl (baseRow 0xCB) from rfl
theorem slaIndHL : Statement .slaIndHL := fun sl => show 2 = Row.length sl (baseRow 0xCB) from rfl
theorem slaA : Statement .slaA := fun sl => show 2 = Row.length sl (baseRow 0xCB) from rfl
theorem sraB : Statement .sraB := fun sl => show 2 = Row.length sl (baseRow 0xCB) from rfl
theorem sraC : Statement .sraC := fun sl => show 2 = Row.length sl (baseRow 0xCB) from rfl
theorem sraD : Statement .sraD := fun sl => show 2 = Row.length sl (baseRow 0xCB) from rfl
theorem sraE : Statement .sraE := fun sl => show 2 = Row.length sl (baseRow 0xCB) from rfl
theorem sraH : Statement .sraH := fun sl => show 2 = Row.length sl (baseRow 0xCB) from rfl
theorem sraL : Statement .sraL := fun sl => show 2 = Row.length sl (baseRow 0xCB) from rfl
theorem sraIndHL : Statement .sraIndHL := fun sl => show 2 = Row.length sl (baseRow 0xCB) from rfl
theorem sraA : Statement .sraA := fun sl => show 2 = Row.length sl (baseRow 0xCB) from rfl
theorem swapB : Statement .swapB := fun sl => show 2 = Row.length sl (baseRow 0xCB) from rfl
theorem swapC : Statement .swapC := fun sl => show 2 = Row.length sl (baseRow 0xCB) from rfl
theorem swapD : Statement .swapD := fun sl => show 2 = Row.length sl (baseRow 0xCB) from rfl
theorem swapE : Statement .swapE := fun sl => show 2 = Row.length sl (baseRow 0xCB) from rfl
theorem swapH : Statement .swapH := fun sl => show 2 = Row.length sl (baseRow 0xCB) from rfl
theorem swapL : Statement .swapL := fun sl => show 2 = Row.length sl (baseRow 0xCB) from rfl
theorem swapIndHL : Statement .swapIndHL := fun sl => show 2 = Row.length sl (baseRow 0xCB) from rfl
theorem swapA : Statement .swapA := fun sl => show 2 = Row.length sl (baseRow 0xCB) from rfl
theorem srlB : Statement .srlB := fun sl => show 2 = Row.length sl (baseRow 0xCB) from rfl
theorem srlC : Statement .srlC := fun sl => show 2 = Row.length sl (baseRow 0xCB) from rfl
theorem srlD : Statement .srlD := fun sl => show 2 = Row.length sl (baseRow 0xCB) from rfl
theorem srlE : Statement .srlE := fun sl => show 2 = Row.length sl (baseRow 0xCB) from rfl
theorem srlH : Statement .srlH := fun sl => show 2 = Row.length sl (baseRow 0xCB) from rfl
theorem srlL : Statement .srlL := fun sl => show 2 = Row.length sl (baseRow 0xCB) from rfl
theorem srlIndHL : Statement .srlIndHL := fun sl => show 2 = Row.length sl (baseRow 0xCB) from rfl
theorem srlA : Statement .srlA := fun sl => show 2 = Row.length sl (baseRow 0xCB) from rfl
theorem bit0_B : Statement .bit0_B := fun sl => show 2 = Row.length sl (baseRow 0xCB) from rfl
theorem bit0_C : Statement .bit0_C := fun sl => show 2 = Row.length sl (baseRow 0xCB) from rfl
theorem bit0_D : Statement .bit0_D := fun sl => show 2 = Row.length sl (baseRow 0xCB) from rfl
theorem bit0_E : Statement .bit0_E := fun sl => show 2 = Row.length sl (baseRow 0xCB) from rfl
theorem bit0_H : Statement .bit0_H := fun sl => show 2 = Row.length sl (baseRow 0xCB) from rfl
theorem bit0_L : Statement .bit0_L := fun sl => show 2 = Row.length sl (baseRow 0xCB) from rfl
theorem bit0_IndHL : Statement .bit0_IndHL := fun sl => show 2 = Row.length sl (baseRow 0xCB) from rfl
theorem bit0_A : Statement .bit0_A := fun sl => show 2 = Row.length sl (baseRow 0xCB) from rfl
theorem bit1_B : Statement .bit1_B := fun sl => show 2 = Row.length sl (baseRow 0xCB) from rfl
theorem bit1_C : Statement .bit1_C := fun sl => show 2 = Row.length sl (baseRow 0xCB) from rfl
theorem bit1_D : Statement .bit1_D := fun sl => show 2 = Row.length sl (baseRow 0xCB) from rfl
theorem bit1_E : Statement .bit1_E := fun sl => show 2 = Row.length sl (baseRow 0xCB) from rfl
theorem bit1_H : Statement .bit1_H := fun sl => show 2 = Row.length sl (baseRow 0xCB) from rfl
theorem bit1_L : Statement .bit1_L := fun sl => show 2 = Row.length sl (baseRow 0xCB) from rfl
theorem bit1_IndHL : Statement .bit1_IndHL := fun sl => show 2 = Row.length sl (baseRow 0xCB) from rfl
theorem bit1_A : Statement .bit1_A := fun sl => show 2 = Row.length sl (baseRow 0xCB) from rfl
theorem bit2_B : Statement .bit2_B := fun sl => show 2 = Row.length sl (baseRow 0xCB) from rfl
theorem bit2_C : Statement .bit2_C := fun sl => show 2 = Row.length sl (baseRow 0xCB) from rfl
theorem bit2_D : Statement .bit2_D := fun sl => show 2 = Row.length sl (baseRow 0xCB) from rfl
theorem bit2_E : Statement .bit2_E := fun sl => show 2 = Row.length sl (baseRow 0xCB) from rfl
theorem bit2_H : Statement .bit2_H := fun sl => show 2 = Row.length sl (baseRow 0xCB) from rfl
theorem bit2_L : Statement .bit2_L := fun sl => show 2 = Row.length sl (baseRow 0xCB) from rfl
theorem bit2_IndHL : Statement .bit2_IndHL := fun sl => show 2 = Row.length sl (baseRow 0xCB) from rfl
theorem bit2_A : Statement .bit2_A := fun sl => show 2 = Row.length sl (baseRow 0xCB) from rfl
theorem bit3_B : Statement .bit3_B := fun sl => show 2 = Row.length sl (baseRow 0xCB) from rfl
theorem bit3_C : Statement .bit3_C := fun sl => show 2 = Row.length sl (baseRow 0xCB) from rfl
theorem bit3_D : Statement .bit3_D := fun sl => show 2 = Row.length sl (baseRow 0xCB) from rfl
theorem bit3_E : Statement .bit3_E := fun sl => show 2 = Row.length sl (baseRow 0xCB) from rfl
theorem bit3_H : Statement .bit3_H := fun sl => show 2 = Row.length sl (baseRow 0xCB) from rfl
theorem bit3_L : Statement .bit3_L := fun sl => show 2 = Row.length sl (baseRow 0xCB) from rfl
theorem bit3_IndHL : Statement .bit3_IndHL := fun sl => show 2 = Row.length sl (baseRow 0xCB) from rfl
theorem bit3_A : Statement .bit3_A := fun sl => show 2 = Row.length sl (baseRow 0xCB) from rfl
theorem bit4_B : Statement .bit4_B := fun sl => show 2 = Row.length sl (baseRow 0xCB) from rfl
theorem bit4_C : Statement .bit4_C := fun sl => show 2 = Row.length sl (baseRow 0xCB) from rfl
theorem bit4_D : Statement .bit4_D := fun sl => show 2 = Row.length sl (baseRow 0xCB) from rfl
theorem bit4_E : Statement .bit4_E := fun sl => show 2 = Row.length sl (baseRow 0xCB) from rfl
theorem bit4_H : Statement .bit4_H := fun sl => show 2 = Row.length sl (baseRow 0xCB) from rfl
theorem bit4_L : Statement .bit4_L := fun sl => show 2 = Row.length sl (baseRow 0xCB) from rfl
theorem bit4_IndHL : Statement .bit4_IndHL := fun sl => show 2 = Row.length sl (baseRow 0xCB) from rfl
theorem bit4_A : Statement .bit4_A := fun sl => show 2 = Row.length sl (baseRow 0xCB) from rfl
theorem bit5_B : Statement .bit5_B := fun sl => show 2 = Row.length sl (baseRow 0xCB) from rfl
theorem bit5_C : Statement .bit5_C := fun sl => show 2 = Row.length sl (baseRow 0xCB) from rfl
theorem bit5_D : Statement .bit5_D := fun sl => show 2 = Row.length sl (baseRow 0xCB) from rfl
theorem bit5_E : Statement .bit5_E := fun sl => show 2 = Row.length sl (baseRow 0xCB) from rfl
theorem bit5_H : Statement .bit5_H := fun sl => show 2 = Row.length sl (baseRow 0xCB) from rfl
theorem bit5_L : Statement .bit5_L := fun sl => show 2 = Row.length sl (baseRow 0xCB) from rfl
theorem bit5_IndHL : Statement .bit5_IndHL := fun sl => show 2 = Row.length sl (baseRow 0xCB) from rfl
theorem bit5_A : Statement .bit5_A := fun sl => show 2 = Row.length sl (baseRow 0xCB) from rfl
theorem bit6_B : Statement .bit6_B := fun sl => show 2 = Row.length sl (baseRow 0xCB) from rfl
theorem bit6_C : Statement .bit6_C := fun sl => show 2 = Row.length sl (baseRow 0xCB) from rfl
theorem bit6_D : Statement .bit6_D := fun sl => show 2 = Row.length sl (baseRow 0xCB) from rfl
theorem bit6_E : Statement .bit6_E := fun sl => show 2 = Row.length sl (baseRow 0xCB) from rfl
theorem bit6_H : Statement .bit6_H := fun sl => show 2 = Row.length sl (baseRow 0xCB) from rfl
theorem bit6_L : Statement .bit6_L := fun sl => show 2 = Row.length sl (baseRow 0xCB) from rfl
theorem bit6_IndHL : Statement .bit6_IndHL := fun sl => show 2 = Row.length sl (baseRow 0xCB) from rfl
theorem bit6_A : Statement .bit6_A := fun sl => show 2 = Row.length sl (baseRow 0xCB) from rfl
theorem bit7_B : Statement .bit7_B := fun sl => show 2 = Row.length sl (baseRow 0xCB) from rfl
theorem bit7_C : Statement .bit7_C := fun sl => show 2 = Row.length sl (baseRow 0xCB) from rfl
theorem bit7_D : Statement .bit7_D := fun sl => show 2 = Row.length sl (baseRow 0xCB) from rfl
theorem bit7_E : Statement .bit7_E := fun sl => show 2 = Row.length sl (baseRow 0xCB) from rfl
theorem bit7_H : Statement .bit7_H := fun sl => show 2 = Row.length sl (baseRow 0xCB) from rfl
theorem bit7_L : Statement .bit7_L := fun sl => show 2 = Row.length sl (baseRow 0xCB) from rfl
theorem bit7_IndHL : Statement .bit7_IndHL := fun sl => show 2 = Row.length sl (baseRow 0xCB) from rfl
theorem bit7_A : Statement .bit7_A := fun sl => show 2 = Row.length sl (baseRow 0xCB) from rfl
theorem res0_B : Statement .res0_B := fun sl => show 2 = Row.length sl (baseRow 0xCB) from rfl
theorem res0_C : Statement .res0_C := fun sl => show 2 = Row.length sl (baseRow 0xCB) from rfl
theorem res0_D : Statement .res0_D := fun sl => show 2 = Row.length sl (baseRow 0xCB) from rfl
theorem res0_E : Statement .res0_E := fun sl => show 2 = Row.length sl (baseRow 0xCB) from rfl
theorem res0_H : Statement .res0_H := fun sl => show 2 = Row.length sl (baseRow 0xCB) from rfl
theorem res0_L : Statement .res0_L := fun sl => show 2 = Row.length sl (baseRow 0xCB) from rfl
theorem res0_IndHL : Statement .res0_IndHL := fun sl => show 2 = Row.length sl (baseRow 0xCB) from rfl
theorem res0_A : Statement .res0_A := fun sl => show 2 = Row.length sl (baseRow 0xCB) from rfl
theorem res1_B : Statement .res1_B := fun sl => show 2 = Row.length sl (baseRow 0xCB) from rfl
theorem res1_C : Statement .res1_C := fun sl => show 2 = Row.length sl (baseRow 0xCB) from rfl
theorem res1_D : Statement .res1_D := fun sl => show 2 = Row.length sl (baseRow 0xCB) from rfl
theorem res1_E : Statement .res1_E := fun sl => show 2 = Row.length sl (baseRow 0xCB) from rfl
theorem res1_H : Statement .res1_H := fun sl => show 2 = Row.length sl (baseRow 0xCB) from rfl
theorem res1_L : Statement .res1_L := fun sl => show 2 = Row.length sl (baseRow 0xCB) from rfl
theorem res1_IndHL : Statement .res1_IndHL := fun sl => show 2 = Row.length sl (baseRow 0xCB) from rfl
theorem res1_A : Statement .res1_A := fun sl => show 2 = Row.length sl (baseRow 0xCB) from rfl
theorem res2_B : Statement .res2_B := fun sl => show 2 = Row.length sl (baseRow 0xCB) from rfl
theorem res2_C : Statement .res2_C := fun sl => show 2 = Row.length sl (baseRow 0xCB) from rfl
theorem res2_D : Statement .res2_D := fun sl => show 2 = Row.length sl (baseRow 0xCB) from rfl
theorem res2_E : Statement .res2_E := fun sl => show 2 = Row.length sl (baseRow 0xCB) from rfl
theorem res2_H : Statement .res2_H := fun sl => show 2 = Row.length sl (baseRow 0xCB) from rfl
theorem res2_L : Statement .res2_L := fun sl => show 2 = Row.length sl (baseRow 0xCB) from rfl
theorem res2_IndHL : Statement .res2_IndHL := fun sl => show 2 = Row.length sl (baseRow 0xCB) from rfl
theorem res2_A : Statement .res2_A := fun sl => show 2 = Row.length sl (baseRow 0xCB) from rfl
theorem res3_B : Statement .res3_B := fun sl => show 2 = Row.length sl (baseRow 0xCB) from rfl
theorem res3_C : Statement .res3_C := fun sl => show 2 = Row.length sl (baseRow 0xCB) from rfl
theorem res3_D : Statement .res3_D := fun sl => show 2 = Row.length sl (baseRow 0xCB) from rfl
theorem res3_E : Statement .res3_E := fun sl => show 2 = Row.length sl (baseRow 0xCB) from rfl
theorem res3_H : Statement .res3_H := fun sl => show 2 = Row.length sl (baseRow 0xCB) from rfl
theorem res3_L : Statement .res3_L := fun sl => show 2 = Row.length sl (baseRow 0xCB) from rfl
theorem res3_IndHL : Statement .res3_IndHL := fun sl => show 2 = Row.length sl (baseRow 0xCB) from rfl
theorem res3_A : Statement .res3_A := fun sl => show 2 = Row.length sl (baseRow 0xCB) from rfl
theorem res4_B : Statement .res4_B := fun sl => show 2 = Row.length sl (baseRow 0xCB) from rfl
theorem res4_C : Statement .res4_C := fun sl => show 2 = Row.length sl (baseRow 0xCB) from rfl
theorem res4_D : Statement .res4_D := fun sl => show 2 = Row.length sl (baseRow 0xCB) from rfl
theorem res4_E : Statement .res4_E := fun sl => show 2 = Row.length sl (baseRow 0xCB) from rfl
theorem res4_H : Statement .res4_H := fun sl => show 2 = Row.length sl (baseRow 0xCB) from rfl
theorem res4_L : Statement .res4_L := fun sl => show 2 = Row.length sl (baseRow 0xCB) from rfl
theorem res4_IndHL : Statement .res4_IndHL := fun sl => show 2 = Row.length sl (baseRow 0xCB) from rfl
theorem res4_A : Statement .res4_A := fun sl => show 2 = Row.length sl (baseRow 0xCB) from rfl
theorem res5_B : Statement .res5_B := fun sl => show 2 = Row.length sl (baseRow 0xCB) from rfl
theorem res5_C : Statement .res5_C := fun sl => show 2 = Row.length sl (baseRow 0xCB) from rfl
theorem res5_D : Statement .res5_D := fun sl => show 2 = Row.length sl (baseRow 0xCB) from rfl
theorem res5_E : Statement .res5_E := fun sl => show 2 = Row.length sl (baseRow 0xCB) from rfl
theorem res5_H : Statement .res5_H := fun sl => show 2 = Row.length sl (baseRow 0xCB) from rfl
theorem res5_L : Statement .res5_L := fun sl => show 2 = Row.length sl (baseRow 0xCB) from rfl
theorem res5_IndHL : Statement .res5_IndHL := fun sl => show 2 = Row.length sl (baseRow 0xCB) from rfl
theorem res5_A : Statement .res5_A := fun sl => show 2 = Row.length sl (baseRow 0xCB) from rfl
theorem res6_B : Statement .res6_B := fun sl => show 2 = Row.length sl (baseRow 0xCB) from rfl
theorem res6_C : Statement .res6_C := fun sl => show 2 = Row.length sl (baseRow 0xCB) from rfl
theorem res6_D : Statement .res6_D := fun sl => show 2 = Row.length sl (baseRow 0xCB) from rfl
theorem res6_E : Statement .res6_E := fun sl => show 2 = Row.length sl (baseRow 0xCB) from rfl
theorem res6_H : Statement .res6_H := fun sl => show 2 = Row.length sl (baseRow 0xCB) from rfl
theorem res6_L : Statement .res6_L := fun sl => show 2 = Row.length sl (baseRow 0xCB) from rfl
theorem res6_IndHL : Statement .res6_IndHL := fun sl => show 2 = Row.length sl (baseRow 0xCB) from rfl
theorem res6_A : Statement .res6_A := fun sl => show 2 = Row.length sl (baseRow 0xCB) from rfl
theorem res7_B : Statement .res7_B := fun sl => show 2 = Row.length sl (baseRow 0xCB) from rfl
theorem res7_C : Statement .res7_C := fun sl => show 2 = Row.length sl (baseRow 0xCB) from rfl
theorem res7_D : Statement .res7_D := fun sl => show 2 = Row.length sl (baseRow 0xCB) from rfl
theorem res7_E : Statement .res7_E := fun sl => show 2 = Row.length sl (baseRow 0xCB) from rfl
theorem res7_H : Statement .res7_H := fun sl => show 2 = Row.length sl (baseRow 0xCB) from rfl
theorem res7_L : Statement .res7_L := fun sl => show 2 = Row.length sl (baseRow 0xCB) from rfl
theorem res7_IndHL : Statement .res7_IndHL := fun sl => show 2 = Row.length sl (baseRow 0xCB) from rfl
theorem res7_A : Statement .res7_A := fun sl => show 2 = Row.length sl (baseRow 0xCB) from rfl
theorem set0_B : Statement .set0_B := fun sl => show 2 = Row.length sl (baseRow 0xCB) from rfl
theorem set0_C : Statement .set0_C := fun sl => show 2 = Row.length sl (baseRow 0xCB) from rfl
theorem set0_D : Statement .set0_D := fun sl => show 2 = Row.length sl (baseRow 0xCB) from rfl
theorem set0_E : Statement .set0_E := fun sl => show 2 = Row.length sl (baseRow 0xCB) from rfl
theorem set0_H : Statement .set0_H := fun sl => show 2 = Row.length sl (baseRow 0xCB) from rfl
theorem set0_L : Statement .set0_L := fun sl => show 2 = Row.length sl (baseRow 0xCB) from rfl
theorem set0_IndHL : Statement .set0_IndHL := fun sl => show 2 = Row.length sl (baseRow 0xCB) from rfl
theorem set0_A : Statement .set0_A := fun sl => show 2 = Row.length sl (baseRow 0xCB) from rfl
theorem set1_B : Statement .set1_B := fun sl => show 2 = Row.length sl (baseRow 0xCB) from rfl
theorem set1_C : Statement .set1_C := fun sl => show 2 = Row.length sl (baseRow 0xCB) from rfl
theorem set1_D : Statement .set1_D := fun sl => show 2 = Row.length sl (baseRow 0xCB) from rfl
theorem set1_E : Statement .set1_E := fun sl => show 2 = Row.length sl (baseRow 0xCB) from rfl
theorem set1_H : Statement .set1_H := fun sl => show 2 = Row.length sl (baseRow 0xCB) from rfl
theorem set1_L : Statement .set1_L := fun sl => show 2 = Row.length sl (baseRow 0xCB) from rfl
theorem set1_IndHL : Statement .set1_IndHL := fun sl => show 2 = Row.length sl (baseRow 0xCB) from rfl
theorem set1_A : Statement .set1_A := fun sl => show 2 = Row.length sl (baseRow 0xCB) from rfl
theorem set2_B : Statement .set2_B := fun sl => show 2 = Row.length sl (baseRow 0xCB) from rfl
theorem set2_C : Statement .set2_C := fun sl => show 2 = Row.length sl (baseRow 0xCB) from rfl
theorem set2_D : Statement .set2_D := fun sl => show 2 = Row.length sl (baseRow 0xCB) from rfl
theorem set2_E : Statement .set2_E := fun sl => show 2 = Row.length sl (baseRow 0xCB) from rfl
theorem set2_H : Statement .set2_H := fun sl => show 2 = Row.length sl (baseRow 0xCB) from rfl
theorem set2_L : Statement .set2_L := fun sl => show 2 = Row.length sl (baseRow 0xCB) from rfl
theorem set2_IndHL : Statement .set2_IndHL := fun sl => show 2 = Row.length sl (baseRow 0xCB) from rfl
theorem set2_A : Statement .set2_A := fun sl => show 2 = Row.length sl (baseRow 0xCB) from rfl
theorem set3_B : Statement .set3_B := fun sl => show 2 = Row.length sl (baseRow 0xCB) from rfl
theorem set3_C : Statement .set3_C := fun sl => show 2 = Row.length sl (baseRow 0xCB) from rfl
theorem set3_D : Statement .set3_D := fun sl => show 2 = Row.length sl (baseRow 0xCB) from rfl
theorem set3_E : Statement .set3_E := fun sl => show 2 = Row.length sl (baseRow 0xCB) from rfl
theorem set3_H : Statement .set3_H := fun sl => show 2 = Row.length sl (baseRow 0xCB) from rfl
theorem set3_L : Statement .set3_L := fun sl => show 2 = Row.length sl (baseRow 0xCB) from rfl
theorem set3_IndHL : Statement .set3_IndHL := fun sl => show 2 = Row.length sl (baseRow 0xCB) from rfl
theorem set3_A : Statement .set3_A := fun sl => show 2 = Row.length sl (baseRow 0xCB) from rfl
theorem set4_B : Statement .set4_B := fun sl => show 2 = Row.length sl (baseRow 0xCB) from rfl
theorem set4_C : Statement .set4_C := fun sl => show 2 = Row.length sl (baseRow 0xCB) from rfl
theorem set4_D : Statement .set4_D := fun sl => show 2 = Row.length sl (baseRow 0xCB) from rfl
theorem set4_E : Statement .set4_E := fun sl => show 2 = Row.length sl (baseRow 0xCB) from rfl
theorem set4_H : Statement .set4_H := fun sl => show 2 = Row.length sl (baseRow 0xCB) from rfl
theorem set4_L : Statement .set4_L := fun sl => show 2 = Row.length sl (baseRow 0xCB) from rfl
theorem set4_IndHL : Statement .set4_IndHL := fun sl => show 2 = Row.length sl (baseRow 0xCB) from rfl
theorem set4_A : Statement .set4_A := fun sl => show 2 = Row.length sl (baseRow 0xCB) from rfl
theorem set5_B : Statement .set5_B := fun sl => show 2 = Row.length sl (baseRow 0xCB) from rfl
theorem set5_C : Statement .set5_C := fun sl => show 2 = Row.length sl (baseRow 0xCB) from rfl
theorem set5_D : Statement .set5_D := fun sl => show 2 = Row.length sl (baseRow 0xCB) from rfl
theorem set5_E : Statement .set5_E := fun sl => show 2 = Row.length sl (baseRow 0xCB) from rfl
theorem set5_H : Statement .set5_H := fun sl => show 2 = Row.length sl (baseRow 0xCB) from rfl
theorem set5_L : Statement .set5_L := fun sl => show 2 = Row.length sl (baseRow 0xCB) from rfl
theorem set5_IndHL : Statement .set5_IndHL := fun sl => show 2 = Row.length sl (baseRow 0xCB) from rfl
theorem set5_A : Statement .set5_A := fun sl => show 2 = Row.length sl (baseRow 0xCB) from rfl
theorem set6_B : Statement .set6_B := fun sl => show 2 = Row.length sl (baseRow 0xCB) from rfl
theorem set6_C : Statement .set6_C := fun sl => show 2 = Row.length sl (baseRow 0xCB) from rfl
theorem set6_D : Statement .set6_D := fun sl => show 2 = Row.length sl (baseRow 0xCB) from rfl
theorem set6_E : Statement .set6_E := fun sl => show 2 = Row.length sl (baseRow 0xCB) from rfl
theorem set6_H : Statement .set6_H := fun sl => show 2 = Row.length sl (baseRow 0xCB) from rfl
theorem set6_L : Statement .set6_L := fun sl => show 2 = Row.length sl (baseRow 0xCB) from rfl
theorem set6_IndHL : Statement .set6_IndHL := fun sl => show 2 = Row.length sl (baseRow 0xCB) from rfl
theorem set6_A : Statement .set6_A := fun sl => show 2 = Row.length sl (baseRow 0xCB) from rfl
theorem set7_B : Statement .set7_B := fun sl => show 2 = Row.length sl (baseRow 0xCB) from rfl
theorem set7_C : Statement .set7_C := fun sl => show 2 = Row.length sl (baseRow 0xCB) from rfl
theorem set7_D : Statement .set7_D := fun sl => show 2 = Row.length sl (baseRow 0xCB) from rfl
theorem set7_E : Statement .set7_E := fun sl => show 2 = Row.length sl (baseRow 0xCB) from rfl
theorem set7_H : Statement .set7_H := fun sl => show 2 = Row.length sl (baseRow 0xCB) from rfl
theorem set7_L : Statement .set7_L := fun sl => show 2 = Row.length sl (baseRow 0xCB) from rfl
theorem set7_IndHL : Statement .set7_IndHL := fun sl => show 2 = Row.length sl (baseRow 0xCB) from rfl
theorem set7_A : Statement .set7_A := fun sl => show 2 = Row.length sl (baseRow 0xCB) from rfl

end Sys2Proof.Laws.Length
end

