-- ==== Sys2Proof/Laws/Shapes.lean ====
section
/-! SUPPORT. The shapes of the instructions: every instruction is a row selected by its operands, or one of the single rows; and what
`exec` runs for each selected row. A claim over all instructions is a case analysis over the shapes, not over 512 constructors. -/

namespace Sys2Proof.Laws

open Sys2Proof.Machine

/-- The instructions by shape. -/
inductive Shape : Instr → Prop where
  | ld (dst src : R8) : Shape (ldRow dst src)
  | ldN8 (r : R8) (n : Byte) : Shape (ldN8Row r n)
  | alu (op : AluOp) (r : R8) : Shape (aluRow op r)
  | aluN8 (op : AluOp) (n : Byte) : Shape (aluN8Row op n)
  | inc (r : R8) : Shape (incRow r)
  | dec (r : R8) : Shape (decRow r)
  | ldN16 (p : R16) (nn : Word) : Shape (ldN16Row p nn)
  | addHl (p : R16) : Shape (addHLRow p)
  | incPair (p : R16) : Shape (incPairRow p)
  | decPair (p : R16) : Shape (decPairRow p)
  | push (q : R16P) : Shape (pushRow q)
  | pop (q : R16P) : Shape (popRow q)
  | jp (cc : Cond) (aa : Word) : Shape (jpRow cc aa)
  | jr (cc : Cond) (e : Byte) : Shape (jrRow cc e)
  | call (cc : Cond) (aa : Word) : Shape (callRow cc aa)
  | ret (cc : Cond) : Shape (retRow cc)
  | rst (y : Fin 8) : Shape (rstRow y)
  | rot (op : RotOp) (x : R8) : Shape (rotRow op x)
  | bit (b : Fin 8) (x : R8) : Shape (bitRow b x)
  | res (b : Fin 8) (x : R8) : Shape (resRow b x)
  | set (b : Fin 8) (x : R8) : Shape (setRow b x)
  | s_nop : Shape .nop
  | s_ldIndBC_A : Shape .ldIndBC_A
  | s_rlca : Shape .rlca
  | s_ldIndA16_SP (aa : Word) : Shape (.ldIndA16_SP aa)
  | s_ldA_IndBC : Shape .ldA_IndBC
  | s_rrca : Shape .rrca
  | s_stop : Shape .stop
  | s_ldIndDE_A : Shape .ldIndDE_A
  | s_rla : Shape .rla
  | s_jrE8 (e : Byte) : Shape (.jrE8 e)
  | s_ldA_IndDE : Shape .ldA_IndDE
  | s_rra : Shape .rra
  | s_ldIndHLInc_A : Shape .ldIndHLInc_A
  | s_daa : Shape .daa
  | s_ldA_IndHLInc : Shape .ldA_IndHLInc
  | s_cpl : Shape .cpl
  | s_ldIndHLDec_A : Shape .ldIndHLDec_A
  | s_scf : Shape .scf
  | s_ldA_IndHLDec : Shape .ldA_IndHLDec
  | s_ccf : Shape .ccf
  | s_jpA16 (aa : Word) : Shape (.jpA16 aa)
  | s_ret : Shape .ret
  | s_prefixCb (cb : Byte) : Shape (.prefixCb cb)
  | s_callA16 (aa : Word) : Shape (.callA16 aa)
  | s_undefinedD3 : Shape .undefinedD3
  | s_reti : Shape .reti
  | s_undefinedDB : Shape .undefinedDB
  | s_undefinedDD : Shape .undefinedDD
  | s_ldhIndA8_A (a : Byte) : Shape (.ldhIndA8_A a)
  | s_ldIndC_A : Shape .ldIndC_A
  | s_undefinedE3 : Shape .undefinedE3
  | s_undefinedE4 : Shape .undefinedE4
  | s_addSP_E8 (e : Byte) : Shape (.addSP_E8 e)
  | s_jpHL : Shape .jpHL
  | s_ldIndA16_A (aa : Word) : Shape (.ldIndA16_A aa)
  | s_undefinedEB : Shape .undefinedEB
  | s_undefinedEC : Shape .undefinedEC
  | s_undefinedED : Shape .undefinedED
  | s_ldhA_IndA8 (a : Byte) : Shape (.ldhA_IndA8 a)
  | s_ldA_IndC : Shape .ldA_IndC
  | s_di : Shape .di
  | s_undefinedF4 : Shape .undefinedF4
  | s_ldHL_SPE8 (e : Byte) : Shape (.ldHL_SPE8 e)
  | s_ldSP_HL : Shape .ldSP_HL
  | s_ldA_IndA16 (aa : Word) : Shape (.ldA_IndA16 aa)
  | s_ei : Shape .ei
  | s_undefinedFC : Shape .undefinedFC
  | s_undefinedFD : Shape .undefinedFD

/-- Every instruction has a shape. -/
theorem shape_of (i : Instr) : Shape i :=
  match i with
  | .nop => .s_nop
  | .ldBC_N16 nn => .ldN16 .bc nn
  | .ldIndBC_A => .s_ldIndBC_A
  | .incBC => .incPair .bc
  | .incB => .inc .b
  | .decB => .dec .b
  | .ldB_N8 n => .ldN8 .b n
  | .rlca => .s_rlca
  | .ldIndA16_SP aa => .s_ldIndA16_SP aa
  | .addHL_BC => .addHl .bc
  | .ldA_IndBC => .s_ldA_IndBC
  | .decBC => .decPair .bc
  | .incC => .inc .c
  | .decC => .dec .c
  | .ldC_N8 n => .ldN8 .c n
  | .rrca => .s_rrca
  | .stop => .s_stop
  | .ldDE_N16 nn => .ldN16 .de nn
  | .ldIndDE_A => .s_ldIndDE_A
  | .incDE => .incPair .de
  | .incD => .inc .d
  | .decD => .dec .d
  | .ldD_N8 n => .ldN8 .d n
  | .rla => .s_rla
  | .jrE8 e => .s_jrE8 e
  | .addHL_DE => .addHl .de
  | .ldA_IndDE => .s_ldA_IndDE
  | .decDE => .decPair .de
  | .incE => .inc .e
  | .decE => .dec .e
  | .ldE_N8 n => .ldN8 .e n
  | .rra => .s_rra
  | .jrNZ_E8 e => .jr .nz e
  | .ldHL_N16 nn => .ldN16 .hl nn
  | .ldIndHLInc_A => .s_ldIndHLInc_A
  | .incHL => .incPair .hl
  | .incH => .inc .h
  | .decH => .dec .h
  | .ldH_N8 n => .ldN8 .h n
  | .daa => .s_daa
  | .jrZ_E8 e => .jr .z e
  | .addHL_HL => .addHl .hl
  | .ldA_IndHLInc => .s_ldA_IndHLInc
  | .decHL => .decPair .hl
  | .incL => .inc .l
  | .decL => .dec .l
  | .ldL_N8 n => .ldN8 .l n
  | .cpl => .s_cpl
  | .jrNC_E8 e => .jr .nc e
  | .ldSP_N16 nn => .ldN16 .sp nn
  | .ldIndHLDec_A => .s_ldIndHLDec_A
  | .incSP => .incPair .sp
  | .incIndHL => .inc .hlInd
  | .decIndHL => .dec .hlInd
  | .ldIndHL_N8 n => .ldN8 .hlInd n
  | .scf => .s_scf
  | .jrC_E8 e => .jr .c e
  | .addHL_SP => .addHl .sp
  | .ldA_IndHLDec => .s_ldA_IndHLDec
  | .decSP => .decPair .sp
  | .incA => .inc .a
  | .decA => .dec .a
  | .ldA_N8 n => .ldN8 .a n
  | .ccf => .s_ccf
  | .ldB_B => .ld .b .b
  | .ldB_C => .ld .b .c
  | .ldB_D => .ld .b .d
  | .ldB_E => .ld .b .e
  | .ldB_H => .ld .b .h
  | .ldB_L => .ld .b .l
  | .ldB_IndHL => .ld .b .hlInd
  | .ldB_A => .ld .b .a
  | .ldC_B => .ld .c .b
  | .ldC_C => .ld .c .c
  | .ldC_D => .ld .c .d
  | .ldC_E => .ld .c .e
  | .ldC_H => .ld .c .h
  | .ldC_L => .ld .c .l
  | .ldC_IndHL => .ld .c .hlInd
  | .ldC_A => .ld .c .a
  | .ldD_B => .ld .d .b
  | .ldD_C => .ld .d .c
  | .ldD_D => .ld .d .d
  | .ldD_E => .ld .d .e
  | .ldD_H => .ld .d .h
  | .ldD_L => .ld .d .l
  | .ldD_IndHL => .ld .d .hlInd
  | .ldD_A => .ld .d .a
  | .ldE_B => .ld .e .b
  | .ldE_C => .ld .e .c
  | .ldE_D => .ld .e .d
  | .ldE_E => .ld .e .e
  | .ldE_H => .ld .e .h
  | .ldE_L => .ld .e .l
  | .ldE_IndHL => .ld .e .hlInd
  | .ldE_A => .ld .e .a
  | .ldH_B => .ld .h .b
  | .ldH_C => .ld .h .c
  | .ldH_D => .ld .h .d
  | .ldH_E => .ld .h .e
  | .ldH_H => .ld .h .h
  | .ldH_L => .ld .h .l
  | .ldH_IndHL => .ld .h .hlInd
  | .ldH_A => .ld .h .a
  | .ldL_B => .ld .l .b
  | .ldL_C => .ld .l .c
  | .ldL_D => .ld .l .d
  | .ldL_E => .ld .l .e
  | .ldL_H => .ld .l .h
  | .ldL_L => .ld .l .l
  | .ldL_IndHL => .ld .l .hlInd
  | .ldL_A => .ld .l .a
  | .ldIndHL_B => .ld .hlInd .b
  | .ldIndHL_C => .ld .hlInd .c
  | .ldIndHL_D => .ld .hlInd .d
  | .ldIndHL_E => .ld .hlInd .e
  | .ldIndHL_H => .ld .hlInd .h
  | .ldIndHL_L => .ld .hlInd .l
  | .halt => .ld .hlInd .hlInd
  | .ldIndHL_A => .ld .hlInd .a
  | .ldA_B => .ld .a .b
  | .ldA_C => .ld .a .c
  | .ldA_D => .ld .a .d
  | .ldA_E => .ld .a .e
  | .ldA_H => .ld .a .h
  | .ldA_L => .ld .a .l
  | .ldA_IndHL => .ld .a .hlInd
  | .ldA_A => .ld .a .a
  | .addA_B => .alu .add .b
  | .addA_C => .alu .add .c
  | .addA_D => .alu .add .d
  | .addA_E => .alu .add .e
  | .addA_H => .alu .add .h
  | .addA_L => .alu .add .l
  | .addA_IndHL => .alu .add .hlInd
  | .addA_A => .alu .add .a
  | .adcA_B => .alu .adc .b
  | .adcA_C => .alu .adc .c
  | .adcA_D => .alu .adc .d
  | .adcA_E => .alu .adc .e
  | .adcA_H => .alu .adc .h
  | .adcA_L => .alu .adc .l
  | .adcA_IndHL => .alu .adc .hlInd
  | .adcA_A => .alu .adc .a
  | .subA_B => .alu .sub .b
  | .subA_C => .alu .sub .c
  | .subA_D => .alu .sub .d
  | .subA_E => .alu .sub .e
  | .subA_H => .alu .sub .h
  | .subA_L => .alu .sub .l
  | .subA_IndHL => .alu .sub .hlInd
  | .subA_A => .alu .sub .a
  | .sbcA_B => .alu .sbc .b
  | .sbcA_C => .alu .sbc .c
  | .sbcA_D => .alu .sbc .d
  | .sbcA_E => .alu .sbc .e
  | .sbcA_H => .alu .sbc .h
  | .sbcA_L => .alu .sbc .l
  | .sbcA_IndHL => .alu .sbc .hlInd
  | .sbcA_A => .alu .sbc .a
  | .andA_B => .alu .and .b
  | .andA_C => .alu .and .c
  | .andA_D => .alu .and .d
  | .andA_E => .alu .and .e
  | .andA_H => .alu .and .h
  | .andA_L => .alu .and .l
  | .andA_IndHL => .alu .and .hlInd
  | .andA_A => .alu .and .a
  | .xorA_B => .alu .xor .b
  | .xorA_C => .alu .xor .c
  | .xorA_D => .alu .xor .d
  | .xorA_E => .alu .xor .e
  | .xorA_H => .alu .xor .h
  | .xorA_L => .alu .xor .l
  | .xorA_IndHL => .alu .xor .hlInd
  | .xorA_A => .alu .xor .a
  | .orA_B => .alu .or .b
  | .orA_C => .alu .or .c
  | .orA_D => .alu .or .d
  | .orA_E => .alu .or .e
  | .orA_H => .alu .or .h
  | .orA_L => .alu .or .l
  | .orA_IndHL => .alu .or .hlInd
  | .orA_A => .alu .or .a
  | .cpA_B => .alu .cp .b
  | .cpA_C => .alu .cp .c
  | .cpA_D => .alu .cp .d
  | .cpA_E => .alu .cp .e
  | .cpA_H => .alu .cp .h
  | .cpA_L => .alu .cp .l
  | .cpA_IndHL => .alu .cp .hlInd
  | .cpA_A => .alu .cp .a
  | .retNZ => .ret .nz
  | .popBC => .pop .bc
  | .jpNZ_A16 aa => .jp .nz aa
  | .jpA16 aa => .s_jpA16 aa
  | .callNZ_A16 aa => .call .nz aa
  | .pushBC => .push .bc
  | .addA_N8 n => .aluN8 .add n
  | .rst00 => .rst 0
  | .retZ => .ret .z
  | .ret => .s_ret
  | .jpZ_A16 aa => .jp .z aa
  | .prefixCb cb => .s_prefixCb cb
  | .callZ_A16 aa => .call .z aa
  | .callA16 aa => .s_callA16 aa
  | .adcA_N8 n => .aluN8 .adc n
  | .rst08 => .rst 1
  | .retNC => .ret .nc
  | .popDE => .pop .de
  | .jpNC_A16 aa => .jp .nc aa
  | .undefinedD3 => .s_undefinedD3
  | .callNC_A16 aa => .call .nc aa
  | .pushDE => .push .de
  | .subA_N8 n => .aluN8 .sub n
  | .rst10 => .rst 2
  | .retC => .ret .c
  | .reti => .s_reti
  | .jpC_A16 aa => .jp .c aa
  | .undefinedDB => .s_undefinedDB
  | .callC_A16 aa => .call .c aa
  | .undefinedDD => .s_undefinedDD
  | .sbcA_N8 n => .aluN8 .sbc n
  | .rst18 => .rst 3
  | .ldhIndA8_A a => .s_ldhIndA8_A a
  | .popHL => .pop .hl
  | .ldIndC_A => .s_ldIndC_A
  | .undefinedE3 => .s_undefinedE3
  | .undefinedE4 => .s_undefinedE4
  | .pushHL => .push .hl
  | .andA_N8 n => .aluN8 .and n
  | .rst20 => .rst 4
  | .addSP_E8 e => .s_addSP_E8 e
  | .jpHL => .s_jpHL
  | .ldIndA16_A aa => .s_ldIndA16_A aa
  | .undefinedEB => .s_undefinedEB
  | .undefinedEC => .s_undefinedEC
  | .undefinedED => .s_undefinedED
  | .xorA_N8 n => .aluN8 .xor n
  | .rst28 => .rst 5
  | .ldhA_IndA8 a => .s_ldhA_IndA8 a
  | .popAF => .pop .af
  | .ldA_IndC => .s_ldA_IndC
  | .di => .s_di
  | .undefinedF4 => .s_undefinedF4
  | .pushAF => .push .af
  | .orA_N8 n => .aluN8 .or n
  | .rst30 => .rst 6
  | .ldHL_SPE8 e => .s_ldHL_SPE8 e
  | .ldSP_HL => .s_ldSP_HL
  | .ldA_IndA16 aa => .s_ldA_IndA16 aa
  | .ei => .s_ei
  | .undefinedFC => .s_undefinedFC
  | .undefinedFD => .s_undefinedFD
  | .cpA_N8 n => .aluN8 .cp n
  | .rst38 => .rst 7
  | .rlcB => .rot .rlc .b
  | .rlcC => .rot .rlc .c
  | .rlcD => .rot .rlc .d
  | .rlcE => .rot .rlc .e
  | .rlcH => .rot .rlc .h
  | .rlcL => .rot .rlc .l
  | .rlcIndHL => .rot .rlc .hlInd
  | .rlcA => .rot .rlc .a
  | .rrcB => .rot .rrc .b
  | .rrcC => .rot .rrc .c
  | .rrcD => .rot .rrc .d
  | .rrcE => .rot .rrc .e
  | .rrcH => .rot .rrc .h
  | .rrcL => .rot .rrc .l
  | .rrcIndHL => .rot .rrc .hlInd
  | .rrcA => .rot .rrc .a
  | .rlB => .rot .rl .b
  | .rlC => .rot .rl .c
  | .rlD => .rot .rl .d
  | .rlE => .rot .rl .e
  | .rlH => .rot .rl .h
  | .rlL => .rot .rl .l
  | .rlIndHL => .rot .rl .hlInd
  | .rlA => .rot .rl .a
  | .rrB => .rot .rr .b
  | .rrC => .rot .rr .c
  | .rrD => .rot .rr .d
  | .rrE => .rot .rr .e
  | .rrH => .rot .rr .h
  | .rrL => .rot .rr .l
  | .rrIndHL => .rot .rr .hlInd
  | .rrA => .rot .rr .a
  | .slaB => .rot .sla .b
  | .slaC => .rot .sla .c
  | .slaD => .rot .sla .d
  | .slaE => .rot .sla .e
  | .slaH => .rot .sla .h
  | .slaL => .rot .sla .l
  | .slaIndHL => .rot .sla .hlInd
  | .slaA => .rot .sla .a
  | .sraB => .rot .sra .b
  | .sraC => .rot .sra .c
  | .sraD => .rot .sra .d
  | .sraE => .rot .sra .e
  | .sraH => .rot .sra .h
  | .sraL => .rot .sra .l
  | .sraIndHL => .rot .sra .hlInd
  | .sraA => .rot .sra .a
  | .swapB => .rot .swap .b
  | .swapC => .rot .swap .c
  | .swapD => .rot .swap .d
  | .swapE => .rot .swap .e
  | .swapH => .rot .swap .h
  | .swapL => .rot .swap .l
  | .swapIndHL => .rot .swap .hlInd
  | .swapA => .rot .swap .a
  | .srlB => .rot .srl .b
  | .srlC => .rot .srl .c
  | .srlD => .rot .srl .d
  | .srlE => .rot .srl .e
  | .srlH => .rot .srl .h
  | .srlL => .rot .srl .l
  | .srlIndHL => .rot .srl .hlInd
  | .srlA => .rot .srl .a
  | .bit0_B => .bit 0 .b
  | .bit0_C => .bit 0 .c
  | .bit0_D => .bit 0 .d
  | .bit0_E => .bit 0 .e
  | .bit0_H => .bit 0 .h
  | .bit0_L => .bit 0 .l
  | .bit0_IndHL => .bit 0 .hlInd
  | .bit0_A => .bit 0 .a
  | .bit1_B => .bit 1 .b
  | .bit1_C => .bit 1 .c
  | .bit1_D => .bit 1 .d
  | .bit1_E => .bit 1 .e
  | .bit1_H => .bit 1 .h
  | .bit1_L => .bit 1 .l
  | .bit1_IndHL => .bit 1 .hlInd
  | .bit1_A => .bit 1 .a
  | .bit2_B => .bit 2 .b
  | .bit2_C => .bit 2 .c
  | .bit2_D => .bit 2 .d
  | .bit2_E => .bit 2 .e
  | .bit2_H => .bit 2 .h
  | .bit2_L => .bit 2 .l
  | .bit2_IndHL => .bit 2 .hlInd
  | .bit2_A => .bit 2 .a
  | .bit3_B => .bit 3 .b
  | .bit3_C => .bit 3 .c
  | .bit3_D => .bit 3 .d
  | .bit3_E => .bit 3 .e
  | .bit3_H => .bit 3 .h
  | .bit3_L => .bit 3 .l
  | .bit3_IndHL => .bit 3 .hlInd
  | .bit3_A => .bit 3 .a
  | .bit4_B => .bit 4 .b
  | .bit4_C => .bit 4 .c
  | .bit4_D => .bit 4 .d
  | .bit4_E => .bit 4 .e
  | .bit4_H => .bit 4 .h
  | .bit4_L => .bit 4 .l
  | .bit4_IndHL => .bit 4 .hlInd
  | .bit4_A => .bit 4 .a
  | .bit5_B => .bit 5 .b
  | .bit5_C => .bit 5 .c
  | .bit5_D => .bit 5 .d
  | .bit5_E => .bit 5 .e
  | .bit5_H => .bit 5 .h
  | .bit5_L => .bit 5 .l
  | .bit5_IndHL => .bit 5 .hlInd
  | .bit5_A => .bit 5 .a
  | .bit6_B => .bit 6 .b
  | .bit6_C => .bit 6 .c
  | .bit6_D => .bit 6 .d
  | .bit6_E => .bit 6 .e
  | .bit6_H => .bit 6 .h
  | .bit6_L => .bit 6 .l
  | .bit6_IndHL => .bit 6 .hlInd
  | .bit6_A => .bit 6 .a
  | .bit7_B => .bit 7 .b
  | .bit7_C => .bit 7 .c
  | .bit7_D => .bit 7 .d
  | .bit7_E => .bit 7 .e
  | .bit7_H => .bit 7 .h
  | .bit7_L => .bit 7 .l
  | .bit7_IndHL => .bit 7 .hlInd
  | .bit7_A => .bit 7 .a
  | .res0_B => .res 0 .b
  | .res0_C => .res 0 .c
  | .res0_D => .res 0 .d
  | .res0_E => .res 0 .e
  | .res0_H => .res 0 .h
  | .res0_L => .res 0 .l
  | .res0_IndHL => .res 0 .hlInd
  | .res0_A => .res 0 .a
  | .res1_B => .res 1 .b
  | .res1_C => .res 1 .c
  | .res1_D => .res 1 .d
  | .res1_E => .res 1 .e
  | .res1_H => .res 1 .h
  | .res1_L => .res 1 .l
  | .res1_IndHL => .res 1 .hlInd
  | .res1_A => .res 1 .a
  | .res2_B => .res 2 .b
  | .res2_C => .res 2 .c
  | .res2_D => .res 2 .d
  | .res2_E => .res 2 .e
  | .res2_H => .res 2 .h
  | .res2_L => .res 2 .l
  | .res2_IndHL => .res 2 .hlInd
  | .res2_A => .res 2 .a
  | .res3_B => .res 3 .b
  | .res3_C => .res 3 .c
  | .res3_D => .res 3 .d
  | .res3_E => .res 3 .e
  | .res3_H => .res 3 .h
  | .res3_L => .res 3 .l
  | .res3_IndHL => .res 3 .hlInd
  | .res3_A => .res 3 .a
  | .res4_B => .res 4 .b
  | .res4_C => .res 4 .c
  | .res4_D => .res 4 .d
  | .res4_E => .res 4 .e
  | .res4_H => .res 4 .h
  | .res4_L => .res 4 .l
  | .res4_IndHL => .res 4 .hlInd
  | .res4_A => .res 4 .a
  | .res5_B => .res 5 .b
  | .res5_C => .res 5 .c
  | .res5_D => .res 5 .d
  | .res5_E => .res 5 .e
  | .res5_H => .res 5 .h
  | .res5_L => .res 5 .l
  | .res5_IndHL => .res 5 .hlInd
  | .res5_A => .res 5 .a
  | .res6_B => .res 6 .b
  | .res6_C => .res 6 .c
  | .res6_D => .res 6 .d
  | .res6_E => .res 6 .e
  | .res6_H => .res 6 .h
  | .res6_L => .res 6 .l
  | .res6_IndHL => .res 6 .hlInd
  | .res6_A => .res 6 .a
  | .res7_B => .res 7 .b
  | .res7_C => .res 7 .c
  | .res7_D => .res 7 .d
  | .res7_E => .res 7 .e
  | .res7_H => .res 7 .h
  | .res7_L => .res 7 .l
  | .res7_IndHL => .res 7 .hlInd
  | .res7_A => .res 7 .a
  | .set0_B => .set 0 .b
  | .set0_C => .set 0 .c
  | .set0_D => .set 0 .d
  | .set0_E => .set 0 .e
  | .set0_H => .set 0 .h
  | .set0_L => .set 0 .l
  | .set0_IndHL => .set 0 .hlInd
  | .set0_A => .set 0 .a
  | .set1_B => .set 1 .b
  | .set1_C => .set 1 .c
  | .set1_D => .set 1 .d
  | .set1_E => .set 1 .e
  | .set1_H => .set 1 .h
  | .set1_L => .set 1 .l
  | .set1_IndHL => .set 1 .hlInd
  | .set1_A => .set 1 .a
  | .set2_B => .set 2 .b
  | .set2_C => .set 2 .c
  | .set2_D => .set 2 .d
  | .set2_E => .set 2 .e
  | .set2_H => .set 2 .h
  | .set2_L => .set 2 .l
  | .set2_IndHL => .set 2 .hlInd
  | .set2_A => .set 2 .a
  | .set3_B => .set 3 .b
  | .set3_C => .set 3 .c
  | .set3_D => .set 3 .d
  | .set3_E => .set 3 .e
  | .set3_H => .set 3 .h
  | .set3_L => .set 3 .l
  | .set3_IndHL => .set 3 .hlInd
  | .set3_A => .set 3 .a
  | .set4_B => .set 4 .b
  | .set4_C => .set 4 .c
  | .set4_D => .set 4 .d
  | .set4_E => .set 4 .e
  | .set4_H => .set 4 .h
  | .set4_L => .set 4 .l
  | .set4_IndHL => .set 4 .hlInd
  | .set4_A => .set 4 .a
  | .set5_B => .set 5 .b
  | .set5_C => .set 5 .c
  | .set5_D => .set 5 .d
  | .set5_E => .set 5 .e
  | .set5_H => .set 5 .h
  | .set5_L => .set 5 .l
  | .set5_IndHL => .set 5 .hlInd
  | .set5_A => .set 5 .a
  | .set6_B => .set 6 .b
  | .set6_C => .set 6 .c
  | .set6_D => .set 6 .d
  | .set6_E => .set 6 .e
  | .set6_H => .set 6 .h
  | .set6_L => .set 6 .l
  | .set6_IndHL => .set 6 .hlInd
  | .set6_A => .set 6 .a
  | .set7_B => .set 7 .b
  | .set7_C => .set 7 .c
  | .set7_D => .set 7 .d
  | .set7_E => .set 7 .e
  | .set7_H => .set 7 .h
  | .set7_L => .set 7 .l
  | .set7_IndHL => .set 7 .hlInd
  | .set7_A => .set 7 .a

/-! ### What a selected row runs -/

theorem exec_ldRow (dst src : R8) (h : isIndirect dst = false ∨ isIndirect src = false) (s : State) : exec (ldRow dst src) s = loadR8 dst src s := by
  cases dst <;> cases src <;> first | rfl | (simp [isIndirect] at h)

theorem exec_ldN8Row (r : R8) (n : Byte) (s : State) : exec (ldN8Row r n) s = loadImm8 r n s := by cases r <;> rfl

theorem exec_aluRow (op : AluOp) (r : R8) (s : State) : exec (aluRow op r) s = aluR8 op r s := by cases op <;> cases r <;> rfl

theorem exec_aluN8Row (op : AluOp) (n : Byte) (s : State) : exec (aluN8Row op n) s = aluImm op n s := by cases op <;> rfl

theorem exec_incRow (r : R8) (s : State) : exec (incRow r) s = incR8 r s := by cases r <;> rfl

theorem exec_decRow (r : R8) (s : State) : exec (decRow r) s = decR8 r s := by cases r <;> rfl

theorem exec_ldN16Row (p : R16) (nn : Word) (s : State) : exec (ldN16Row p nn) s = loadImm16 p nn s := by cases p <;> rfl

theorem exec_addHLRow (p : R16) (s : State) : exec (addHLRow p) s = addHl p s := by cases p <;> rfl

theorem exec_incPairRow (p : R16) (s : State) : exec (incPairRow p) s = incPair p s := by cases p <;> rfl

theorem exec_decPairRow (p : R16) (s : State) : exec (decPairRow p) s = decPair p s := by cases p <;> rfl

theorem exec_pushRow (q : R16P) (s : State) : exec (pushRow q) s = pushPair q s := by cases q <;> rfl

theorem exec_popRow (q : R16P) (s : State) : exec (popRow q) s = popPair q s := by cases q <;> rfl

theorem exec_jpRow (cc : Cond) (aa : Word) (s : State) : exec (jpRow cc aa) s = jumpIf cc aa s := by cases cc <;> rfl

theorem exec_jrRow (cc : Cond) (e : Byte) (s : State) : exec (jrRow cc e) s = jumpRelativeIf cc e s := by cases cc <;> rfl

theorem exec_callRow (cc : Cond) (aa : Word) (s : State) : exec (callRow cc aa) s = callIf cc aa s := by cases cc <;> rfl

theorem exec_retRow (cc : Cond) (s : State) : exec (retRow cc) s = returnIf cc s := by cases cc <;> rfl

theorem exec_rstRow (y : Fin 8) (s : State) : exec (rstRow y) s = restart (BitVec.ofNat 16 (8 * y.val)) s := by fin_cases y <;> rfl

theorem exec_rotRow (op : RotOp) (x : R8) (s : State) : exec (rotRow op x) s = rotR8 op x s := by cases op <;> cases x <;> rfl

theorem exec_bitRow (b : Fin 8) (x : R8) (s : State) : exec (bitRow b x) s = testBit b x s := by fin_cases b <;> cases x <;> rfl

theorem exec_resRow (b : Fin 8) (x : R8) (s : State) : exec (resRow b x) s = resBit b x s := by fin_cases b <;> cases x <;> rfl

theorem exec_setRow (b : Fin 8) (x : R8) (s : State) : exec (setRow b x) s = setBitR8 b x s := by fin_cases b <;> cases x <;> rfl

theorem exec_halt (s : State) : exec .halt s = .next (retire 1 4 { s with halted := true }) := rfl

/-- The prefix row runs the row of its CB byte. -/
theorem exec_prefixCb (cb : Byte) (s : State) : exec (.prefixCb cb) s = exec (cbRow cb) s := by
  show execPrefixCb cb s = _
  unfold execPrefixCb cbRow
  generalize (fieldX cb).toNat = k
  rcases k with _ | _ | _ | k
  · exact (exec_rotRow _ _ s).symm
  · exact (exec_bitRow _ _ s).symm
  · exact (exec_resRow _ _ s).symm
  · exact (exec_setRow _ _ s).symm

end Sys2Proof.Laws
end

