-- ==== Sys2Proof/Tests/Slice0.lean ====
section
/-! SUPPORT. Tests. First the ill-formed term and the decoding of every constructor, from the opcode numbers of spec/opcode_table.json;
then single steps, whose expected results are the vectors of spec/95_test_vectors.md; then a witness of the hypotheses of every
obligation that has some, for each of its clauses and at the ends of its ranges. -/

namespace Sys2Proof.Tests

open Sys2Proof.Machine Sys2Proof.Claims

/-! ### Well-formed instructions -/

/-- The one check refuses the prefix byte standing alone (R656). -/
theorem test_wellFormed_refuses_prefix : (Instr.prefixCb 0x00).wellFormed = false := rfl
theorem test_wellFormed_admits : (Instr.jrE8 0x80).wellFormed = true := rfl

/-! ### Decoding: one word of each family, bit by bit from the spec's encodings -/

theorem test_word_ld : decode .two [0b01_100_011] = .ok (.ldH_E, []) := rfl
theorem test_word_ld_n16 : decode .two [0b00_11_0001, 0xFE, 0xFF] = .ok (.ldSP_N16 0xFFFE, []) := rfl
theorem test_word_push : decode .two [0b11_01_0101] = .ok (.pushDE, []) := rfl
theorem test_word_alu : decode .two [0b10_111_110] = .ok (.cpA_IndHL, []) := rfl
theorem test_word_inc : decode .two [0b00_101_100] = .ok (.incL, []) := rfl
theorem test_word_add_hl : decode .two [0b00_01_1001] = .ok (.addHL_DE, []) := rfl
theorem test_word_rot : decode .two [0b11001011, 0b00_101_010] = .ok (.sraD, []) := rfl
theorem test_word_bit : decode .two [0b11001011, 0b01_110_001] = .ok (.bit6_C, []) := rfl
theorem test_word_res : decode .two [0b11001011, 0b10_001_111] = .ok (.res1_A, []) := rfl
theorem test_word_set : decode .two [0b11001011, 0b11_100_110] = .ok (.set4_IndHL, []) := rfl
theorem test_word_jr : decode .two [0b001_10_000, 0x80] = .ok (.jrNC_E8 0x80, []) := rfl
theorem test_word_call : decode .two [0b110_01_100, 0x34, 0x12] = .ok (.callZ_A16 0x1234, []) := rfl
theorem test_word_rst : decode .two [0b11_111_111] = .ok (.rst38, []) := rfl
theorem test_word_stop : decode .two [0b00010000, 0x5A, 0x01] = .ok (.stop, [0x01]) := rfl
theorem test_word_stop_one : decode .one [0b00010000, 0x5A] = .ok (.stop, [0x5A]) := rfl
theorem test_word_truncated : decode .two [0xC3, 0x34] = .error .truncated := rfl

/-! ### Decoding: every constructor, by its opcode in the table -/

/-- What the decoder reads at the opcodes `0xh0` to `0xhF`, each with the operand bytes 0x34 and 0x12. -/
def decodedRow (hi : Nat) : List (Option Instr) :=
  (List.range 16).map (fun lo =>
    match decode .two [BitVec.ofNat 8 (16 * hi + lo), 0x34, 0x12] with
    | .ok (i, _) => some i
    | .error _ => none)

/-- What the decoder reads at the CB bytes `0xh0` to `0xhF`. -/
def decodedCbRow (hi : Nat) : List (Option Instr) :=
  (List.range 16).map (fun lo =>
    match decode .two [0xCB, BitVec.ofNat 8 (16 * hi + lo)] with
    | .ok (i, _) => some i
    | .error _ => none)

theorem test_decode_0x : decodedRow 0x0 =
    ([
      .nop, (.ldBC_N16 0x1234), .ldIndBC_A, .incBC, .incB, .decB, (.ldB_N8 0x34), .rlca, (.ldIndA16_SP 0x1234), .addHL_BC, .ldA_IndBC,
      .decBC, .incC, .decC, (.ldC_N8 0x34), .rrca
    ] : List Instr).map some := by rfl

theorem test_decode_1x : decodedRow 0x1 =
    ([
      .stop, (.ldDE_N16 0x1234), .ldIndDE_A, .incDE, .incD, .decD, (.ldD_N8 0x34), .rla, (.jrE8 0x34), .addHL_DE, .ldA_IndDE, .decDE,
      .incE, .decE, (.ldE_N8 0x34), .rra
    ] : List Instr).map some := by rfl

theorem test_decode_2x : decodedRow 0x2 =
    ([
      (.jrNZ_E8 0x34), (.ldHL_N16 0x1234), .ldIndHLInc_A, .incHL, .incH, .decH, (.ldH_N8 0x34), .daa, (.jrZ_E8 0x34), .addHL_HL,
      .ldA_IndHLInc, .decHL, .incL, .decL, (.ldL_N8 0x34), .cpl
    ] : List Instr).map some := by rfl

theorem test_decode_3x : decodedRow 0x3 =
    ([
      (.jrNC_E8 0x34), (.ldSP_N16 0x1234), .ldIndHLDec_A, .incSP, .incIndHL, .decIndHL, (.ldIndHL_N8 0x34), .scf, (.jrC_E8 0x34),
      .addHL_SP, .ldA_IndHLDec, .decSP, .incA, .decA, (.ldA_N8 0x34), .ccf
    ] : List Instr).map some := by rfl

theorem test_decode_4x : decodedRow 0x4 =
    ([
      .ldB_B, .ldB_C, .ldB_D, .ldB_E, .ldB_H, .ldB_L, .ldB_IndHL, .ldB_A, .ldC_B, .ldC_C, .ldC_D, .ldC_E, .ldC_H, .ldC_L, .ldC_IndHL,
      .ldC_A
    ] : List Instr).map some := by rfl

theorem test_decode_5x : decodedRow 0x5 =
    ([
      .ldD_B, .ldD_C, .ldD_D, .ldD_E, .ldD_H, .ldD_L, .ldD_IndHL, .ldD_A, .ldE_B, .ldE_C, .ldE_D, .ldE_E, .ldE_H, .ldE_L, .ldE_IndHL,
      .ldE_A
    ] : List Instr).map some := by rfl

theorem test_decode_6x : decodedRow 0x6 =
    ([
      .ldH_B, .ldH_C, .ldH_D, .ldH_E, .ldH_H, .ldH_L, .ldH_IndHL, .ldH_A, .ldL_B, .ldL_C, .ldL_D, .ldL_E, .ldL_H, .ldL_L, .ldL_IndHL,
      .ldL_A
    ] : List Instr).map some := by rfl

theorem test_decode_7x : decodedRow 0x7 =
    ([
      .ldIndHL_B, .ldIndHL_C, .ldIndHL_D, .ldIndHL_E, .ldIndHL_H, .ldIndHL_L, .halt, .ldIndHL_A, .ldA_B, .ldA_C, .ldA_D, .ldA_E,
      .ldA_H, .ldA_L, .ldA_IndHL, .ldA_A
    ] : List Instr).map some := by rfl

theorem test_decode_8x : decodedRow 0x8 =
    ([
      .addA_B, .addA_C, .addA_D, .addA_E, .addA_H, .addA_L, .addA_IndHL, .addA_A, .adcA_B, .adcA_C, .adcA_D, .adcA_E, .adcA_H, .adcA_L,
      .adcA_IndHL, .adcA_A
    ] : List Instr).map some := by rfl

theorem test_decode_9x : decodedRow 0x9 =
    ([
      .subA_B, .subA_C, .subA_D, .subA_E, .subA_H, .subA_L, .subA_IndHL, .subA_A, .sbcA_B, .sbcA_C, .sbcA_D, .sbcA_E, .sbcA_H, .sbcA_L,
      .sbcA_IndHL, .sbcA_A
    ] : List Instr).map some := by rfl

theorem test_decode_Ax : decodedRow 0xA =
    ([
      .andA_B, .andA_C, .andA_D, .andA_E, .andA_H, .andA_L, .andA_IndHL, .andA_A, .xorA_B, .xorA_C, .xorA_D, .xorA_E, .xorA_H, .xorA_L,
      .xorA_IndHL, .xorA_A
    ] : List Instr).map some := by rfl

theorem test_decode_Bx : decodedRow 0xB =
    ([
      .orA_B, .orA_C, .orA_D, .orA_E, .orA_H, .orA_L, .orA_IndHL, .orA_A, .cpA_B, .cpA_C, .cpA_D, .cpA_E, .cpA_H, .cpA_L, .cpA_IndHL,
      .cpA_A
    ] : List Instr).map some := by rfl

theorem test_decode_Cx : decodedRow 0xC =
    ([
      .retNZ, .popBC, (.jpNZ_A16 0x1234), (.jpA16 0x1234), (.callNZ_A16 0x1234), .pushBC, (.addA_N8 0x34), .rst00, .retZ, .ret,
      (.jpZ_A16 0x1234), .swapH, (.callZ_A16 0x1234), (.callA16 0x1234), (.adcA_N8 0x34), .rst08
    ] : List Instr).map some := by rfl

theorem test_decode_Dx : decodedRow 0xD =
    ([
      .retNC, .popDE, (.jpNC_A16 0x1234), .undefinedD3, (.callNC_A16 0x1234), .pushDE, (.subA_N8 0x34), .rst10, .retC, .reti,
      (.jpC_A16 0x1234), .undefinedDB, (.callC_A16 0x1234), .undefinedDD, (.sbcA_N8 0x34), .rst18
    ] : List Instr).map some := by rfl

theorem test_decode_Ex : decodedRow 0xE =
    ([
      (.ldhIndA8_A 0x34), .popHL, .ldIndC_A, .undefinedE3, .undefinedE4, .pushHL, (.andA_N8 0x34), .rst20, (.addSP_E8 0x34), .jpHL,
      (.ldIndA16_A 0x1234), .undefinedEB, .undefinedEC, .undefinedED, (.xorA_N8 0x34), .rst28
    ] : List Instr).map some := by rfl

theorem test_decode_Fx : decodedRow 0xF =
    ([
      (.ldhA_IndA8 0x34), .popAF, .ldA_IndC, .di, .undefinedF4, .pushAF, (.orA_N8 0x34), .rst30, (.ldHL_SPE8 0x34), .ldSP_HL,
      (.ldA_IndA16 0x1234), .ei, .undefinedFC, .undefinedFD, (.cpA_N8 0x34), .rst38
    ] : List Instr).map some := by rfl

theorem test_decode_cb_0x : decodedCbRow 0x0 =
    ([
      .rlcB, .rlcC, .rlcD, .rlcE, .rlcH, .rlcL, .rlcIndHL, .rlcA, .rrcB, .rrcC, .rrcD, .rrcE, .rrcH, .rrcL, .rrcIndHL, .rrcA
    ] : List Instr).map some := by rfl

theorem test_decode_cb_1x : decodedCbRow 0x1 =
    ([
      .rlB, .rlC, .rlD, .rlE, .rlH, .rlL, .rlIndHL, .rlA, .rrB, .rrC, .rrD, .rrE, .rrH, .rrL, .rrIndHL, .rrA
    ] : List Instr).map some := by rfl

theorem test_decode_cb_2x : decodedCbRow 0x2 =
    ([
      .slaB, .slaC, .slaD, .slaE, .slaH, .slaL, .slaIndHL, .slaA, .sraB, .sraC, .sraD, .sraE, .sraH, .sraL, .sraIndHL, .sraA
    ] : List Instr).map some := by rfl

theorem test_decode_cb_3x : decodedCbRow 0x3 =
    ([
      .swapB, .swapC, .swapD, .swapE, .swapH, .swapL, .swapIndHL, .swapA, .srlB, .srlC, .srlD, .srlE, .srlH, .srlL, .srlIndHL, .srlA
    ] : List Instr).map some := by rfl

theorem test_decode_cb_4x : decodedCbRow 0x4 =
    ([
      .bit0_B, .bit0_C, .bit0_D, .bit0_E, .bit0_H, .bit0_L, .bit0_IndHL, .bit0_A, .bit1_B, .bit1_C, .bit1_D, .bit1_E, .bit1_H, .bit1_L,
      .bit1_IndHL, .bit1_A
    ] : List Instr).map some := by rfl

theorem test_decode_cb_5x : decodedCbRow 0x5 =
    ([
      .bit2_B, .bit2_C, .bit2_D, .bit2_E, .bit2_H, .bit2_L, .bit2_IndHL, .bit2_A, .bit3_B, .bit3_C, .bit3_D, .bit3_E, .bit3_H, .bit3_L,
      .bit3_IndHL, .bit3_A
    ] : List Instr).map some := by rfl

theorem test_decode_cb_6x : decodedCbRow 0x6 =
    ([
      .bit4_B, .bit4_C, .bit4_D, .bit4_E, .bit4_H, .bit4_L, .bit4_IndHL, .bit4_A, .bit5_B, .bit5_C, .bit5_D, .bit5_E, .bit5_H, .bit5_L,
      .bit5_IndHL, .bit5_A
    ] : List Instr).map some := by rfl

theorem test_decode_cb_7x : decodedCbRow 0x7 =
    ([
      .bit6_B, .bit6_C, .bit6_D, .bit6_E, .bit6_H, .bit6_L, .bit6_IndHL, .bit6_A, .bit7_B, .bit7_C, .bit7_D, .bit7_E, .bit7_H, .bit7_L,
      .bit7_IndHL, .bit7_A
    ] : List Instr).map some := by rfl

theorem test_decode_cb_8x : decodedCbRow 0x8 =
    ([
      .res0_B, .res0_C, .res0_D, .res0_E, .res0_H, .res0_L, .res0_IndHL, .res0_A, .res1_B, .res1_C, .res1_D, .res1_E, .res1_H, .res1_L,
      .res1_IndHL, .res1_A
    ] : List Instr).map some := by rfl

theorem test_decode_cb_9x : decodedCbRow 0x9 =
    ([
      .res2_B, .res2_C, .res2_D, .res2_E, .res2_H, .res2_L, .res2_IndHL, .res2_A, .res3_B, .res3_C, .res3_D, .res3_E, .res3_H, .res3_L,
      .res3_IndHL, .res3_A
    ] : List Instr).map some := by rfl

theorem test_decode_cb_Ax : decodedCbRow 0xA =
    ([
      .res4_B, .res4_C, .res4_D, .res4_E, .res4_H, .res4_L, .res4_IndHL, .res4_A, .res5_B, .res5_C, .res5_D, .res5_E, .res5_H, .res5_L,
      .res5_IndHL, .res5_A
    ] : List Instr).map some := by rfl

theorem test_decode_cb_Bx : decodedCbRow 0xB =
    ([
      .res6_B, .res6_C, .res6_D, .res6_E, .res6_H, .res6_L, .res6_IndHL, .res6_A, .res7_B, .res7_C, .res7_D, .res7_E, .res7_H, .res7_L,
      .res7_IndHL, .res7_A
    ] : List Instr).map some := by rfl

theorem test_decode_cb_Cx : decodedCbRow 0xC =
    ([
      .set0_B, .set0_C, .set0_D, .set0_E, .set0_H, .set0_L, .set0_IndHL, .set0_A, .set1_B, .set1_C, .set1_D, .set1_E, .set1_H, .set1_L,
      .set1_IndHL, .set1_A
    ] : List Instr).map some := by rfl

theorem test_decode_cb_Dx : decodedCbRow 0xD =
    ([
      .set2_B, .set2_C, .set2_D, .set2_E, .set2_H, .set2_L, .set2_IndHL, .set2_A, .set3_B, .set3_C, .set3_D, .set3_E, .set3_H, .set3_L,
      .set3_IndHL, .set3_A
    ] : List Instr).map some := by rfl

theorem test_decode_cb_Ex : decodedCbRow 0xE =
    ([
      .set4_B, .set4_C, .set4_D, .set4_E, .set4_H, .set4_L, .set4_IndHL, .set4_A, .set5_B, .set5_C, .set5_D, .set5_E, .set5_H, .set5_L,
      .set5_IndHL, .set5_A
    ] : List Instr).map some := by rfl

theorem test_decode_cb_Fx : decodedCbRow 0xF =
    ([
      .set6_B, .set6_C, .set6_D, .set6_E, .set6_H, .set6_L, .set6_IndHL, .set6_A, .set7_B, .set7_C, .set7_D, .set7_E, .set7_H, .set7_L,
      .set7_IndHL, .set7_A
    ] : List Instr).map some := by rfl

/-! ### Single steps, from spec/95_test_vectors.md -/

/-- The vectors' start: PostBoot with no request, a flat cartridge of 32 KiB. -/
def base : State :=
  { State.reset with cfg := { Params.default with cartridge := .flat false }, irq := { State.reset.irq with iflag := 0 } }

/-- The bytes of a program in the cartridge, with PC at the first. -/
def place (pc : Word) (bytes : List Byte) (s : State) : State :=
  { s.setPc pc with cart := ⟨bytes.zipIdx.map (fun x => (pc.toNat + x.2, x.1)), [], []⟩ }

/-- The state a step leaves. -/
def after (s : State) : State :=
  match step s with
  | .next t => t
  | .fault k => faultState k s
  | .refused _ => s

/-- A byte of memory after a step. -/
def byteAfter (a : Word) (s : State) : Byte := readVal a (after s)

/-- The fault a step answers. -/
def faultOf (s : State) : Option Fault :=
  match step s with
  | .fault k => some k
  | _ => none

def withA (v : Byte) (s : State) : State := s.setA v
def withF (v : Byte) (s : State) : State := s.setFlags (Flags.ofByte v)
def withIrq (ime : Bool) (ie : Byte) (iflag : BitVec 5) (s : State) : State :=
  { s with irq := { s.irq with ime := ime, ie := ie, iflag := iflag } }

theorem test_ld_overwrites_address :
    (after (place 0x0100 [0x66] (memWrite 0xC000 0x99 (base.setHl 0xC000)))).hl = 0x9900 := by decide
theorem test_ld_seen_in_echo : byteAfter 0xE123 (place 0x0100 [0x77] (withA 0x5A (base.setHl 0xC123))) = 0x5A := by decide
theorem test_ld_unusable_range : (after (place 0x0100 [0x7E] (withA 0x12 (base.setHl 0xFEA5)))).regs.a = 0 := by decide
theorem test_ldi_wraps : (after (place 0x0100 [0x22] (withA 0x1F (base.setHl 0xFFFF)))).hl = 0x0000 := by decide
theorem test_ldi_stores_at_old_hl : (after (place 0x0100 [0x22] (withA 0x1F (base.setHl 0xFFFF)))).irq.ie = 0x1F := by decide
theorem test_ld_a16_sp_low_first : byteAfter 0xC100 (place 0x0100 [0x08, 0x00, 0xC1] (base.setSp 0xFFF8)) = 0xF8 := by decide
theorem test_ldh_reads_tac :
    (after (place 0x0100 [0xF0, 0x07] { base with timer := { base.timer with tac := 0b101 } })).regs.a = 0xFD := by decide
theorem test_pop_af_masks :
    (after (place 0x0100 [0xF1] (memWrite 0xC001 0x12 (memWrite 0xC000 0xFF (base.setSp 0xC000))))).af = 0x12F0 := by decide
theorem test_pop_reads_ie :
    (after (place 0x0100 [0xC1] (withIrq false 0x12 0 (memWrite 0xFFFE 0x34 base)))).bc = 0x1234 := by decide
theorem test_push_high_above : byteAfter 0xFFFD (place 0x0100 [0xC5] (r16Write .bc 0x1234 base)) = 0x12 := by decide
theorem test_div_write_then_ticks :
    (after (place 0x0100 [0xE0, 0x04] { base with timer := { base.timer with div := 0x77, divAcc := 200 } })).timer.divAcc = 12 := by
  decide
theorem test_dma_copies_last_byte :
    byteAfter 0xFE9F (place 0x0100 [0xE0, 0x46] (withA 0xC0 (memWrite 0xC09F 0x22 base))) = 0x22 := by decide +kernel
theorem test_dma_above_f1_copies_nothing :
    (after (place 0x0100 [0xE0, 0x46] (withA 0xF2 base))).mem = [] := by decide

theorem test_adc_carry_in :
    (after (place 0x0100 [0xCE, 0xFF] (withF 0x10 (withA 0x10 base)))).af = 0x1030 := by decide
theorem test_sbc_self_with_carry : (after (place 0x0100 [0x9F] (withF 0x10 (withA 0x55 base)))).af = 0xFF70 := by decide
theorem test_sub_half_borrow : (after (place 0x0100 [0xD6, 0x0F] (withA 0x3E base))).af = 0x2F60 := by decide
theorem test_and_sets_half : (after (place 0x0100 [0xE6, 0x0F] (withA 0x5A base))).af = 0x0A20 := by decide
theorem test_cp_keeps_a : (after (place 0x0100 [0xFE, 0x40] (withA 0x3C base))).af = 0x3C50 := by decide
theorem test_inc_keeps_carry : (after (place 0x0100 [0x3C] (withF 0x10 (withA 0xFF base)))).af = 0x00B0 := by decide
theorem test_dec_from_zero : (after (place 0x0100 [0x3D] (withF 0x00 (withA 0x00 base)))).af = 0xFF60 := by decide
theorem test_daa_after_add : (after (place 0x0100 [0x27] (withF 0x00 (withA 0x9A base)))).af = 0x0090 := by decide
theorem test_daa_after_sub : (after (place 0x0100 [0x27] (withF 0x70 (withA 0xFF base)))).af = 0x9950 := by decide
theorem test_daa_miss_faults : faultOf (place 0x0100 [0x27] (withF 0x20 (withA 0x1E base))) = some .daaTableMiss := by decide
theorem test_daa_miss_hardware :
    (after (place 0x0100 [0x27] (withF 0x20 (withA 0x1E
      { base with cfg := { base.cfg with daaMissPolicy := .hardwareAlgorithm } })))).af = 0x2400 := by decide
theorem test_cpl : (after (place 0x0100 [0x2F] (withF 0x90 (withA 0x35 base)))).af = 0xCAF0 := by decide
theorem test_scf_keeps_z : (after (place 0x0100 [0x37] (withF 0xE0 base))).regs.flags.toByte = 0x90 := by decide
theorem test_ccf : (after (place 0x0100 [0x3F] (withF 0x70 base))).regs.flags.toByte = 0x00 := by decide

theorem test_add_hl_keeps_z :
    (after (place 0x0100 [0x09] (withF 0x80 (r16Write .bc 0x0001 (base.setHl 0x0FFF))))).regs.flags.toByte = 0xA0 := by decide
theorem test_inc_pair_wraps : (after (place 0x0100 [0x03] (r16Write .bc 0xFFFF base))).bc = 0x0000 := by decide
theorem test_add_sp_negative : (after (place 0x0100 [0xE8, 0xFF] (base.setSp 0xFFFF))).regs.flags.toByte = 0x30 := by decide
theorem test_ld_hl_sp_zero : (after (place 0x0100 [0xF8, 0xFB] (withF 0x80 (base.setSp 0x0005)))).regs.flags.toByte = 0x30 := by decide

theorem test_rlca_clears_z : (after (place 0x0100 [0x07] (withF 0x80 (withA 0x00 base)))).af = 0x0000 := by decide
theorem test_rra_takes_carry : (after (place 0x0100 [0x1F] (withF 0x10 (withA 0x00 base)))).af = 0x8000 := by decide
theorem test_rlc_memory :
    byteAfter 0xC000 (place 0x0100 [0xCB, 0x06] (memWrite 0xC000 0x80 (base.setHl 0xC000))) = 0x01 := by decide
theorem test_rr_sets_z_and_carry :
    (after (place 0x0100 [0xCB, 0x1B] (withF 0x00 { base with regs := { base.regs with e := 0x01 } }))).regs.flags.toByte = 0x90 := by
  decide
theorem test_sra_keeps_sign :
    (after (place 0x0100 [0xCB, 0x2C] { base with regs := { base.regs with h := 0x85 } })).regs.h = 0xC2 := by decide
theorem test_swap : (after (place 0x0100 [0xCB, 0x37] (withF 0x70 (withA 0xF1 base)))).af = 0x1F00 := by decide
theorem test_srl_of_div_writes_back :
    (after (place 0x0100 [0xCB, 0x3E] (base.setHl 0xFF04))).timer.div = 0x00 := by decide
theorem test_bit_keeps_carry : (after (place 0x0100 [0xCB, 0x47] (withF 0x10 (withA 0x80 base)))).af = 0x80B0 := by decide
theorem test_bit_of_stat : (after (place 0x0100 [0xCB, 0x7E] (withF 0x00 (base.setHl 0xFF41)))).regs.flags.toByte = 0x20 := by decide
theorem test_res_keeps_flags : (after (place 0x0100 [0xCB, 0x9F] (withF 0xA0 (withA 0xFF base)))).af = 0xF7A0 := by decide
theorem test_set_memory :
    byteAfter 0xC000 (place 0x0100 [0xCB, 0xFE] (memWrite 0xC000 0x00 (base.setHl 0xC000))) = 0x80 := by decide

theorem test_jp_not_taken_ticks : (after (place 0x0100 [0xC2, 0x00, 0x30] (withF 0x80 base))).out.ticks = 12 := by decide
theorem test_jp_charged_taken :
    (after (place 0x0100 [0xC2, 0x00, 0x30] (withF 0x80 { base with cfg := { base.cfg with condTicks := .taken } }))).out.ticks
      = 16 := by decide
theorem test_jr_wraps_below_zero : (after (place 0x0010 [0x18, 0x80] base)).regs.pc = 0xFF92 := by decide
theorem test_jr_taken : (after (place 0x0110 [0x20, 0xFA] (withF 0x00 base))).regs.pc = 0x010C := by decide
theorem test_call_pushes_next_address : byteAfter 0xFFFC (place 0x0150 [0xCD, 0x00, 0x20] base) = 0x53 := by decide
theorem test_call_not_taken_leaves_sp : (after (place 0x0300 [0xCC, 0x00, 0x40] (withF 0x00 (base.setSp 0xD000)))).regs.sp = 0xD000 := by
  decide
theorem test_ret_taken :
    (after (place 0x0100 [0xC8] (withF 0x80 (memWrite 0xFFFD 0x02 (memWrite 0xFFFC 0x00 (base.setSp 0xFFFC)))))).regs.pc = 0x0200 := by
  decide
theorem test_rst_target : (after (place 0x0200 [0xEF] base)).regs.pc = 0x0028 := by decide
theorem test_reti_sets_ime : (after (place 0x0100 [0xD9] base)).irq.ime = true := by decide

theorem test_halt : (after (place 0x0100 [0x76] base)).halted = true := by decide
theorem test_idle_step_stays : (after { place 0x0101 [0x00] base with halted := true }).regs.pc = 0x0101 := by decide
theorem test_stop_length_one :
    (after (place 0x0150 [0x10, 0x00] { base with cfg := { base.cfg with stopLength := .one } })).regs.pc = 0x0151 := by decide
theorem test_di_is_delayed : (after (place 0x0100 [0xF3] (withIrq true 0 0 base))).irq.ime = true := by decide
theorem test_ei_sets_ime_at_third_step : (beginStep (after (after (place 0x0100 [0xFB, 0x00, 0x00] base)))).irq.ime = true := by decide
theorem test_undefined_is_nop : (after (place 0x0200 [0xD3] base)).regs.pc = 0x0201 := by decide
theorem test_undefined_faults :
    faultOf (place 0x0200 [0xFD] { base with cfg := { base.cfg with invalidOpcodePolicy := .fault } }) = some (.invalidOpcode 0xFD) := by
  decide

theorem test_dispatch_priority : (after (place 0x0100 [0x00] (withIrq true 0x05 0x05 base))).regs.pc = 0x0040 := by decide
theorem test_dispatch_pushes_pc : byteAfter 0xFFFD (place 0x0100 [0x00] (withIrq true 0x05 0x05 base)) = 0x01 := by decide
theorem test_dispatch_ignores_ie_high_bits : (after (place 0x0100 [0x00] (withIrq true 0xE0 0x1F base))).regs.pc = 0x0101 := by decide
theorem test_autoclear :
    (after (place 0x0100 [0x00] (withIrq true 0x05 0x05 { base with cfg := { base.cfg with ifAutoclear := true } }))).irq.iflag
      = 0x04 := by decide
theorem test_wake_without_dispatch :
    (after { place 0x0101 [0x3C] (withA 0 (withIrq false 0x04 0x04 base)) with halted := true }).regs.a = 0x01 := by decide
theorem test_timer_overflow_reloads :
    (after (place 0x0100 [0x00]
      { base with timer := { base.timer with tac := 0b101, tima := 0xFF, tma := 0x80, timaAcc := 12 } })).timer.tima = 0x80 := by
  decide
theorem test_tac_write_keeps_accumulator :
    (after (place 0x0100 [0xE0, 0x07] (withA 0x01
      { base with timer := { base.timer with tac := 0b101, timaAcc := 10 } }))).timer.timaAcc = 10 := by decide
theorem test_line_143_enters_vblank :
    (after (place 0x0100 [0x00]
      { base with disp := { base.disp with mode := .hBlank, phaseTicks := 200, ly := 143, statEn := 0b0010 } })).irq.iflag = 0x03 := by
  decide
theorem test_line_153_wraps :
    (after (place 0x0100 [0x00]
      { base with disp := { base.disp with mode := .vBlank, phaseTicks := 452, ly := 153 } })).disp.ly = 0 := by decide
theorem test_read_precedes_delivery :
    (after (place 0x0100 [0xFA, 0x44, 0xFF]
      { base with disp := { base.disp with mode := .hBlank, phaseTicks := 200, ly := 143 } })).regs.a = 0x8F := by decide
theorem test_lyc_write_keeps_coincidence :
    (after (place 0x0100 [0xE0, 0x45] (withA 0x20
      { base with disp := { base.disp with ly := 32, coincidence := false } }))).disp.coincidence = false := by decide

/-- Bytes in work RAM, at 0xC000, with PC at the first: every read is of a core-owned byte. -/
def inRam (bytes : List Byte) (s : State) : State :=
  { s.setPc 0xC000 with mem := bytes.zipIdx.map (fun x => (0xC000 + x.2, x.1)) }

/-! ### Named collaborators (R14, R15, R223) -/

/-- A banked cartridge: a write to 0x2000-0x3FFF selects, in cell 0, the bank that 0x4000-0x7FFF shows; the ROM's bytes are the cells from
0x10000, 16 KiB a bank; cell 1 takes what other writes store. -/
def banked : Device where
  answer :=
    .less .addr (.num 0x4000) (.cell (.op .add (.num 0x10000) .addr))
      (.cell (.op .add (.num 0x10000) (.op .add (.op .mul (.cell (.num 0)) (.num 0x4000)) (.op .sub .addr (.num 0x4000)))))
  onRead := []
  onWrite := [⟨.less .addr (.num 0x2000) (.num 1) (.less .addr (.num 0x4000) (.num 0) (.num 1)), .data⟩]

/-- Peripherals of one byte, which a read clears. -/
def clearedByRead : Device where
  answer := .cell (.num 0)
  onRead := [⟨.num 0, .num 0⟩]
  onWrite := [⟨.num 0, .data⟩]

def withDevice (d : Device) (cells : Memory) (s : State) : State :=
  { s with cfg := { s.cfg with cartridge := .named d }, cart := ⟨[], cells, []⟩ }

def withPeripheral (d : Device) (cells : Memory) (s : State) : State :=
  { s with cfg := { s.cfg with extIo := .named d }, ext := ⟨cells, []⟩ }

theorem test_bank_switch :
    byteAfter 0x4000 (inRam [0x77] (withDevice banked [(0, 1), (0x14000, 0x11), (0x18000, 0x22)] (withA 2 (base.setHl 0x2000)))) = 0x22 := by
  decide
theorem test_bank_before_switch :
    (after (inRam [0x7E] (withDevice banked [(0, 1), (0x14000, 0x11), (0x18000, 0x22)] (base.setHl 0x4000)))).regs.a = 0x11 := by decide
theorem test_read_clears_peripheral :
    (let t := after (inRam [0xF0, 0x01] (withPeripheral clearedByRead [(0, 0x5A)] base)); (t.regs.a, t.ext.cells)) = (0x5A, []) := by
  decide
theorem test_write_reaches_peripheral :
    (after (inRam [0xE0, 0x3F] (withA 0x77 (withPeripheral clearedByRead [] base)))).ext.cells = [(0, 0x77)] := by decide
theorem test_boot_overlay_shows_boot_program :
    readVal 0x00FF { base with bootOverlay := true, cfg := { base.cfg with bootRom := some (Vector.replicate 256 0x31) } } = 0x31 := by
  decide

/-! ### Witnesses: each hypothesis of each obligation is met -/

theorem witness_register_operands : R8.b ≠ .hlInd ∧ R8.c ≠ .hlInd ∧ R8.d ≠ .hlInd ∧ R8.e ≠ .hlInd ∧ R8.h ≠ .hlInd
    ∧ R8.l ≠ .hlInd ∧ R8.a ≠ .hlInd := by decide

/-- DecimalAdjust and DecimalAdjustTable: the first and the last row match at their ends. -/
theorem witness_adjust_rows :
    (⟨false, false, (0x0, 0x9), false, (0x0, 0x9), 0x00, false⟩ : AdjustRow) ∈ adjustTable
    ∧ AdjustRow.Matches ⟨false, false, (0x0, 0x9), false, (0x0, 0x9), 0x00, false⟩ 0x99 ⟨false, false, false, false⟩
    ∧ (⟨true, true, (0x6, 0xF), true, (0x6, 0xF), 0x9A, true⟩ : AdjustRow) ∈ adjustTable
    ∧ AdjustRow.Matches ⟨true, true, (0x6, 0xF), true, (0x6, 0xF), 0x9A, true⟩ 0x66 ⟨false, true, true, true⟩ := by
  refine ⟨.head _, ?_, ?_, ?_⟩
  · simp [AdjustRow.Matches]
  · simp [adjustTable]
  · simp [AdjustRow.Matches]

/-- DecimalAdjust: no row matches A = 0x1E with Hf set, under either policy. -/
theorem witness_adjust_miss :
    (∀ row ∈ adjustTable, ¬ row.Matches 0x1E ⟨false, false, true, false⟩)
    ∧ base.cfg.daaMissPolicy = .fault
    ∧ ({ base.cfg with daaMissPolicy := .hardwareAlgorithm } : Params).daaMissPolicy = .hardwareAlgorithm := by
  refine ⟨?_, rfl, rfl⟩
  simp [adjustTable, AdjustRow.Matches]

/-- DecimalAdjustTable: the last row covers A = 0x66, and no row covers A = 0x1E with Hf set. -/
theorem witness_adjust_table :
    daaTable[12]? = some ⟨true, true, 0x6, 0xF, true, 0x6, 0xF, 0x9A, true⟩
    ∧ DaaRow.covers ⟨true, true, 0x6, 0xF, true, 0x6, 0xF, 0x9A, true⟩ 0x66 ⟨false, true, true, true⟩ = true
    ∧ ∀ row ∈ daaTable, row.covers 0x1E ⟨false, false, true, false⟩ = false := by decide

theorem witness_decimal_arithmetic : PackedBcd 0x00 ∧ PackedBcd 0x99 := by simp [PackedBcd]

theorem witness_undefined_opcodes :
    base.cfg.invalidOpcodePolicy = .nop
    ∧ ({ base.cfg with invalidOpcodePolicy := .fault } : Params).invalidOpcodePolicy = .fault := by decide

/-- StorageRegions, at both ends of every range. -/
theorem witness_storage_regions :
    [(0x8000 : Word), 0x9FFF, 0xC000, 0xFE9F, 0xFF80, 0xFFFE].all (fun a => decide
      ((0x8000 ≤ a.toNat ∧ a.toNat ≤ 0x9FFF) ∨ (0xC000 ≤ a.toNat ∧ a.toNat ≤ 0xFE9F) ∨ (0xFF80 ≤ a.toNat ∧ a.toNat ≤ 0xFFFE)))
    ∧ [(0xE000 : Word), 0xFDFF].all (fun a => decide (0xE000 ≤ a.toNat ∧ a.toNat ≤ 0xFDFF))
    ∧ [(0xFEA0 : Word), 0xFEFF].all (fun a => decide (0xFEA0 ≤ a.toNat ∧ a.toNat ≤ 0xFEFF)) := by decide

/-- ReadsAreIdempotentOrEvents: core-owned bytes, and bytes of an unnamed cartridge and of the external peripherals. -/
theorem witness_owned :
    [(0x8000 : Word), 0xFF03, 0xFF0F, 0xFFFF].all (fun a => coreOwned State.reset a)
    ∧ [(0x0000 : Word), 0xBFFF, 0xFF00, 0xFF3F].all (fun a => !coreOwned State.reset a)
    ∧ Peripheral 0xFF00 ∧ Peripheral 0xFF3F ∧ ¬ Peripheral 0x0000 ∧ ¬ Peripheral 0xBFFF := by
  refine ⟨by decide, by decide, ?_⟩
  simp [Peripheral]

/-- StoresLeaveTheRest: bytes that a store does not reach, for a plain store, a DMA trigger and the overlay's end. -/
theorem witness_store_touches :
    ¬ storeTouches 0xC000 0x01 0xC001 ∧ ¬ storeTouches 0xFF46 0xF1 0xFDFF ∧ ¬ storeTouches 0xFF46 0xF2 0xFE00
    ∧ ¬ storeTouches 0xFF50 0x01 0x0100 ∧ ¬ storeTouches 0xFF50 0x00 0x00FF := by
  simp [storeTouches, physical]

/-- DmaCopy, around 0xF1 and at the ends of the 160 bytes. -/
theorem witness_dma :
    0xF1 < (0xF2 : Byte).toNat ∧ (0xF1 : Byte).toNat ≤ 0xF1 ∧ 0 < 160 ∧ 159 < 160
    ∧ coreOwned base (((0xF1#8 ++ 0x00#8 : Word)) + BitVec.ofNat 16 159) = true := by decide

/-- IoReads and IoWrites: the ends of the unmapped ranges, and of the external ones. -/
theorem witness_io_addresses :
    [(0xFF03 : Word), 0xFF08, 0xFF0E, 0xFF4C, 0xFF4F, 0xFF51, 0xFF7F].all (fun a => decide
      (a = 0xFF03 ∨ (0xFF08 ≤ a.toNat ∧ a.toNat ≤ 0xFF0E) ∨ (0xFF4C ≤ a.toNat ∧ a.toNat ≤ 0xFF4F)
        ∨ (0xFF51 ≤ a.toNat ∧ a.toNat ≤ 0xFF7F)))
    ∧ ∀ a ∈ [(0xFF00 : Word), 0xFF02, 0xFF10, 0xFF3F], Peripheral a := by
  refine ⟨by decide, ?_⟩
  simp [Peripheral]

/-- InstructionsStoreOnlyWhereTheySay: a push, and a byte above its two stores. -/
theorem witness_stores :
    Instr.pushBC.wellFormed = true ∧ (∃ t, exec .pushBC base = .next t) ∧ coreOwned base 0xFFFE = true
    ∧ ∀ x ∈ storesOf .pushBC base, ¬ storeTouches x.1 x.2 0xFFFE := by
  refine ⟨rfl, ⟨_, rfl⟩, by decide, ?_⟩
  show ∀ x ∈ storesOfPush (stackPairOf .bc base.regs) base, _
  simp [storesOfPush, storeTouches, physical, base, State.reset]

/-- InstructionsThatStoreNothing, FlagWriters, ProgramCounterAdvances and TickCosts. -/
theorem witness_nop :
    Instr.nop.wellFormed = true ∧ (∃ t, exec .nop base = .next t) ∧ storesOf .nop base = []
    ∧ writesFlags (opcode .nop) (secondByte .nop) = false ∧ setsPc (opcode .nop) = false
    ∧ Instr.nop ≠ .halt ∧ Instr.nop ≠ .stop ∧ Instr.nop ≠ .di ∧ Instr.nop ≠ .ei ∧ Instr.nop ≠ .reti
    ∧ (withDevice banked [] base).cfg.cartridge = .named banked ∧ banked.onRead = []
    ∧ (withPeripheral ⟨.num 0xCF, [], []⟩ [] base).cfg.extIo = .named ⟨.num 0xCF, [], []⟩ :=
  ⟨rfl, ⟨_, rfl⟩, rfl, rfl, rfl, by decide, by decide, by decide, by decide, by decide, rfl, rfl, rfl⟩

/-- StepRunsTheDecodedInstruction: a three-byte instruction in work RAM. -/
theorem witness_step_runs :
    let s := inRam [0xC3, 0x34, 0x12] base
    s.fault = none ∧ interruptDue (beginStep s) = false ∧ idleDue (beginStep s) = false
    ∧ decode s.cfg.stopLength (fetchInstr (wake (beginStep s))).1 = .ok (.jpA16 0x1234, [])
    ∧ instrLength s.cfg.stopLength (readVal s.regs.pc s) = 3
    ∧ ∀ k : Nat, k < 3 → coreOwned s (s.regs.pc + BitVec.ofNat 16 k) = true :=
  ⟨rfl, rfl, rfl, rfl, rfl, by decide⟩

/-- InterruptDispatch, for the first and the last line. -/
theorem witness_dispatch :
    (base.fault = none ∧ ((withIrq true 0x1F 0b11111 base).irq.imeDelayed.getD (withIrq true 0x1F 0b11111 base).irq.ime) = true)
    ∧ ((0x1F : Byte).getLsbD 0 && (0b11111#5).getLsbD 0) = true
    ∧ ((0x1F : Byte).getLsbD 4 && (0b10000#5).getLsbD 4) = true
    ∧ ∀ j : Nat, j < 4 → ((0x1F : Byte).getLsbD j && (0b10000#5).getLsbD j) = false := by decide

/-- HaltedSteps: nothing pending, and a request pending with IME clear. -/
theorem witness_halted :
    (∃ s : State, s.fault = none ∧ s.halted = true ∧ pendingLines s = 0)
    ∧ ∃ s : State, s.fault = none ∧ s.halted = true ∧ pendingLines s ≠ 0 ∧ (s.irq.imeDelayed.getD s.irq.ime) = false :=
  ⟨⟨{ base with halted := true }, rfl, rfl, rfl⟩,
    ⟨{ withIrq false 0x04 0x04 base with halted := true }, rfl, rfl, by decide, rfl⟩⟩

/-- EnableIsDelayedByOneInstruction: EI, then NOP. -/
theorem witness_enable :
    let s := inRam [0xFB, 0x00, 0x00] base
    let t := after s
    let u := after t
    s.fault = none ∧ interruptDue (beginStep s) = false ∧ idleDue (beginStep s) = false
    ∧ decode s.cfg.stopLength (fetchInstr (wake (beginStep s))).1 = .ok (.ei, []) ∧ step s = .next t
    ∧ interruptDue (beginStep t) = false
    ∧ decode t.cfg.stopLength (fetchInstr (wake (beginStep t))).1 = .ok (.nop, []) ∧ Instr.nop ≠ .reti ∧ step t = .next u :=
  ⟨rfl, rfl, rfl, rfl, rfl, rfl, rfl, by decide, rfl⟩

/-- FaultsAreSticky: a state that holds a fault, and a step that faults. -/
theorem witness_fault :
    (base.faulted .daaTableMiss).fault = some .daaTableMiss
    ∧ ∃ s : State, s.fault = none ∧ step s = .fault (.invalidOpcode 0xD3) :=
  ⟨rfl, ⟨inRam [0xD3] { base with cfg := { base.cfg with invalidOpcodePolicy := .fault } }, rfl, rfl⟩⟩

/-- StepsComplete: a step for each of its three cases. -/
theorem witness_steps :
    (∃ t, step (inRam [0x00] base) = .next t)
    ∧ step (inRam [0x27] (withF 0x20 (withA 0x1E base))) = .fault .daaTableMiss
    ∧ step (inRam [0xD3] { base with cfg := { base.cfg with invalidOpcodePolicy := .fault } }) = .fault (.invalidOpcode 0xD3) :=
  ⟨⟨_, rfl⟩, rfl, rfl⟩

/-- InvariantAtReset: a reset with an empty cartridge and empty peripherals. -/
theorem witness_reset :
    (⟨[], [], []⟩ : Cart).image.within none isCartWindow = true ∧ (⟨[], [], []⟩ : Cart).cells.wf (some 0) = true
    ∧ (⟨[], []⟩ : Peripherals).cells.wf (some 0) = true ∧ ∃ s, resetWith Params.default ⟨[], [], []⟩ ⟨[], []⟩ = .next s :=
  ⟨rfl, rfl, rfl, ⟨_, rfl⟩⟩

/-- StepKeepsInvariant and ParametersAndOverlayPersist: a state with the invariant whose step answers a next state. -/
theorem witness_invariant : Inv (inRam [0x00] base) ∧ (∃ t, step (inRam [0x00] base) = .next t) ∧ base.bootOverlay = false :=
  ⟨⟨by decide, by decide, by decide, by decide, by decide, by decide, by decide, by decide, by decide, by decide⟩, ⟨_, rfl⟩, rfl⟩

/-- RequestsAreLatched, clause by clause. -/
theorem witness_latched :
    ((0b10000#5).getLsbD 4 = true)
    ∧ (∃ t, exec .nop base = .next t) ∧ (∀ x ∈ storesOf .nop base, x.1 ≠ 0xFF0F)
    ∧ base.regs.sp - 1 ≠ 0xFF0F ∧ base.regs.sp - 2 ≠ 0xFF0F ∧ base.cfg.ifAutoclear = false
    ∧ 1 ≠ firstLine (pendingLines (withIrq true 0x05 0x05 base)) :=
  ⟨rfl, ⟨_, rfl⟩, (fun x h => nomatch (show x ∈ ([] : List (Word × Byte)) from h)), by decide, by decide, rfl, by decide⟩

/-- DecodeOfEncode and DecodingIsTotal: a well-formed instruction; enough bytes, too few, and STOP. -/
theorem witness_decoding :
    (Instr.jpA16 0xFFFF).wellFormed = true
    ∧ instrLength .two 0xC3 ≤ ([0x34, 0x12] : List Byte).length + 1 ∧ ([0x34] : List Byte).length + 1 < instrLength .two 0xC3
    ∧ (0xC3 : Byte) ≠ 0x10 ∧ instrLength .one 0x10 ≤ ([] : List Byte).length + 1 := by decide

/-- TimerDelivery: the counter off and on. -/
theorem witness_timer : (0b011#3).getLsbD 2 = false ∧ (0b100#3).getLsbD 2 = true := by decide

/-- DisplayPhases: gated; inside a phase; and at the end of each. -/
theorem witness_display_phases :
    (({ base.cfg with lcdGating := true } : Params).lcdGating = true ∧ (0x7F : Byte).getLsbD 7 = false)
    ∧ (base.cfg.lcdGating = false ∧ base.disp.phaseTicks + 79 < base.disp.mode.duration)
    ∧ (0 < Mode.duration .oamScan ∧ 0 + 80 = Mode.duration .oamScan) ∧ (171 < Mode.duration .transfer ∧ 171 + 1 = Mode.duration .transfer)
    ∧ (0 < Mode.duration .hBlank ∧ 0 + 204 = Mode.duration .hBlank) ∧ (455 < Mode.duration .vBlank ∧ 455 + 1 = Mode.duration .vBlank) := by
  decide

/-- DisplayFrame: the lines 0, 143, 144 and 153. -/
theorem witness_display_frame :
    AtLineStart 0 base.disp ∧ AtLineStart 143 { base.disp with ly := 143 }
    ∧ AtLineStart 144 { base.disp with ly := 144, mode := .vBlank } ∧ AtLineStart 153 { base.disp with ly := 153, mode := .vBlank } :=
  ⟨⟨rfl, rfl, rfl⟩, ⟨rfl, rfl, rfl⟩, ⟨rfl, rfl, rfl⟩, ⟨rfl, rfl, rfl⟩⟩

/-- ResetAndExternalEvents: each profile, with and without a boot program; each request bit. -/
theorem witness_profiles :
    Params.default.resetProfile = .postBoot
    ∧ (∃ p : Params, p.resetProfile = .bootRom ∧ p.bootRom ≠ none) ∧ (∃ p : Params, p.resetProfile = .bootRom ∧ p.bootRom = none)
    ∧ (2 ≠ 3 ∧ 2 ≠ 4) ∧ (5 ≠ 3 ∧ 5 ≠ 4) :=
  ⟨rfl, ⟨{ Params.default with resetProfile := .bootRom, bootRom := some (Vector.replicate 256 0x00) }, rfl, by simp⟩,
    ⟨{ Params.default with resetProfile := .bootRom }, rfl, rfl⟩, by decide, by decide⟩

/-- ResetAndExternalEvents: RAM given with one byte listed twice; an address before, at and after it, at the ends of the RAM. -/
theorem witness_ram_given :
    RamAddress 0x8000 ∧ RamAddress 0xFFFE
    ∧ [(0x8000, (0x11 : Byte)), (0xC000, 0x22), (0x8000, 0x33)] = [(0x8000, 0x11), (0xC000, 0x22)] ++ ((0x8000 : Word).toNat, 0x33) :: []
    ∧ ∀ x ∈ [(0x8000, (0x11 : Byte)), (0xC000, 0x22), (0x8000, 0x33)], x.1 ≠ (0xFFFE : Word).toNat := by
  refine ⟨?_, ?_, rfl, by decide⟩ <;> simp [RamAddress]

/-- CartridgeAndBootOverlay: the last byte under an overlay with a boot program; the ends of the windows; the flat RAM's ends. -/
theorem witness_cartridge :
    (∃ s : State, s.bootOverlay = true ∧ s.cfg.bootRom = some (Vector.replicate 256 0x31)) ∧ (0x00FF : Word).toNat < 256
    ∧ (∀ a ∈ [(0x0000 : Word), 0x7FFF, 0xA000, 0xBFFF], CartAddress a)
    ∧ (base.bootOverlay = true → base.cfg.bootRom ≠ none → 0xFF < (0x0000 : Word).toNat)
    ∧ ∃ s : State, s.cfg.cartridge = .flat true ∧ 0xA000 ≤ (0xBFFF : Word).toNat ∧ (0xBFFF : Word).toNat ≤ 0xBFFF := by
  refine ⟨⟨{ base with bootOverlay := true, cfg := { base.cfg with bootRom := some (Vector.replicate 256 0x31) } }, rfl, rfl⟩, by decide, ?_, ?_, ?_⟩
  · simp [CartAddress]
  · exact fun h => nomatch h
  · exact ⟨{ base with cfg := { base.cfg with cartridge := .flat true } }, rfl, by decide, by decide⟩

end Sys2Proof.Tests
end

section
/-! PROOFS. The plain storage of the bus: video, work, object-attribute and zero-page RAM with the echo (R205, R207, R208, R209, R216), and
the unusable range (R210). -/

namespace Sys2Proof.Proofs

open Sys2Proof.Machine

variable {a : Word}

/-! ### The byte behind an address -/

/-- The addresses of core RAM as ranges (R115). -/
theorem isStorage_iff (k : Nat) :
    isStorage k = true
      ↔ (0x8000 ≤ k ∧ k ≤ 0x9FFF) ∨ (0xC000 ≤ k ∧ k ≤ 0xDFFF) ∨ (0xFE00 ≤ k ∧ k ≤ 0xFE9F) ∨ (0xFF80 ≤ k ∧ k ≤ 0xFFFE) := by
  simp only [isStorage, Bool.or_eq_true, Bool.and_eq_true, decide_eq_true_eq, or_assoc]

/-- An address outside the echo names its own byte. -/
theorem physical_of_not_echo (h : ¬ (0xE000 ≤ a.toNat ∧ a.toNat ≤ 0xFDFF)) : physical a = a.toNat := if_neg h

section Echo
variable (h : 0xE000 ≤ a.toNat ∧ a.toNat ≤ 0xFDFF)
include h

theorem physical_of_echo : physical a = a.toNat - 0x2000 := if_pos h

/-- An echo address and the one 0x2000 below it name the same byte (R208). -/
theorem physical_sub_echo : physical (a - 0x2000) = physical a := by
  have ha : (a - 0x2000).toNat = a.toNat - 0x2000 := by bv_omega
  rw [physical_of_echo h, physical_of_not_echo (by omega), ha]

/-- The byte behind an echo address is a byte of work RAM. -/
theorem isStorage_physical_of_echo : isStorage (physical a) = true := by
  rw [physical_of_echo h, isStorage_iff]
  omega

end Echo

/-- The plain storage regions, with the echo inside the second range: each address names a byte of core RAM. -/
theorem isStorage_physical
    (h : (0x8000 ≤ a.toNat ∧ a.toNat ≤ 0x9FFF) ∨ (0xC000 ≤ a.toNat ∧ a.toNat ≤ 0xFE9F) ∨ (0xFF80 ≤ a.toNat ∧ a.toNat ≤ 0xFFFE)) :
    isStorage (physical a) = true := by
  by_cases he : 0xE000 ≤ a.toNat ∧ a.toNat ≤ 0xFDFF
  · exact isStorage_physical_of_echo he
  · rw [physical_of_not_echo he, isStorage_iff]
    omega

/-! ### The regions of core RAM and of the unusable range -/

theorem region_of_echo (o : Bool) (h : 0xE000 ≤ a.toNat ∧ a.toNat ≤ 0xFDFF) : region o a = .echo := by
  rcases region_cases o a with ⟨e, g⟩ | ⟨e, g⟩ | ⟨e, g⟩ | ⟨e, g⟩ | ⟨e, g⟩ | ⟨e, g⟩ | ⟨e, g⟩ | ⟨e, g⟩ | ⟨e, g⟩ | ⟨e, g⟩
    <;> simp only [e, reduceCtorEq] <;> omega

theorem region_of_unusable (o : Bool) (h : 0xFEA0 ≤ a.toNat ∧ a.toNat ≤ 0xFEFF) : region o a = .unusable := by
  rcases region_cases o a with ⟨e, g⟩ | ⟨e, g⟩ | ⟨e, g⟩ | ⟨e, g⟩ | ⟨e, g⟩ | ⟨e, g⟩ | ⟨e, g⟩ | ⟨e, g⟩ | ⟨e, g⟩ | ⟨e, g⟩
    <;> simp only [e, reduceCtorEq] <;> omega

/-- The regions of core RAM, with the byte behind an address of each. -/
theorem region_of_storage (o : Bool) (h : isStorage (physical a) = true) :
    (region o a = .echo ∧ physical a = a.toNat - 0x2000)
    ∨ ((region o a = .vram ∨ region o a = .wram ∨ region o a = .oam ∨ region o a = .hram) ∧ physical a = a.toNat) := by
  by_cases he : 0xE000 ≤ a.toNat ∧ a.toNat ≤ 0xFDFF
  · exact .inl ⟨region_of_echo o he, physical_of_echo he⟩
  · have hp := physical_of_not_echo he
    rw [hp, isStorage_iff] at h
    refine .inr ⟨?_, hp⟩
    rcases region_cases o a with ⟨e, g⟩ | ⟨e, g⟩ | ⟨e, g⟩ | ⟨e, g⟩ | ⟨e, g⟩ | ⟨e, g⟩ | ⟨e, g⟩ | ⟨e, g⟩ | ⟨e, g⟩ | ⟨e, g⟩
      <;> simp only [e, reduceCtorEq, or_true, true_or, or_self] <;> omega

/-! ### The bus over core RAM -/

section Storage
variable (v : Byte) (s : State) (h : isStorage (physical a) = true)
include h

/-- A read of core RAM gives the byte behind its address. -/
theorem readVal_storage : readVal a s = ramVal s (physical a) := by
  obtain ⟨e, hp⟩ | ⟨e | e | e | e, hp⟩ := region_of_storage s.bootOverlay h <;> simp only [readVal, e, hp]

/-- A read of core RAM is no event (R223). -/
theorem afterRead_storage : afterRead a s = s := by
  obtain ⟨e, -⟩ | ⟨e | e | e | e, -⟩ := region_of_storage s.bootOverlay h <;> simp only [afterRead, e]

/-- A write of core RAM stores at the byte behind its address. -/
theorem memWrite_storage : memWrite a v s = ramWrite (physical a) v s := by
  obtain ⟨e, hp⟩ | ⟨e | e | e | e, hp⟩ := region_of_storage false h <;> simp only [memWrite, e, hp]

theorem readVal_memWrite_storage : readVal a (memWrite a v s) = v := by
  rw [readVal_storage _ h, memWrite_storage v s h, ramVal_ramWrite, if_pos rfl]

/-- A store to core RAM changes nothing but the memory. -/
theorem memWrite_storage_frame : memWrite a v s = { s with mem := (memWrite a v s).mem } := by
  rw [memWrite_storage v s h]
  rfl

end Storage

/-- Settles O31: a read and a write of a storage address reach the byte `physical a` of core RAM, so a store is read back there, and an echo
address and the one 0x2000 below it share it; an access to the unusable range reaches no state. -/
theorem storageRegions : Obligations.StorageRegions := by
  intro s a v
  refine ⟨fun h => ?storage, fun h => ?echo, fun h => ?unusable⟩
  case storage =>
    have hs := isStorage_physical h
    exact ⟨readVal_memWrite_storage v s hs, afterRead_storage s hs, memWrite_storage_frame v s hs⟩
  case echo =>
    have hp := physical_sub_echo h
    have hs := isStorage_physical_of_echo h
    have hs' : isStorage (physical (a - 0x2000)) = true := hp ▸ hs
    exact ⟨by rw [readVal_storage s hs, readVal_storage s hs', hp], by rw [memWrite_storage v s hs, memWrite_storage v s hs', hp]⟩
  case unusable =>
    refine ⟨?_, ?_, ?_⟩
    · simp only [readVal, region_of_unusable s.bootOverlay h]
    · simp only [afterRead, region_of_unusable s.bootOverlay h]
    · simp only [memWrite, region_of_unusable false h]

end Sys2Proof.Proofs
end

section
/-! PROOFS. The immediate loads of the registers (R402): their opcodes in the base map, and the register file a completed load leaves. -/

namespace Sys2Proof.Proofs

open Sys2Proof.Machine Sys2Proof.Claims Sys2Proof.Laws

/-! ### Decoding -/

/-- An opcode of format `op_n8` takes the byte after it as its immediate (R300). -/
theorem decode_of_baseRow_n8 {op : Byte} {f : Byte → Instr} (h : baseRow op = .n8 f) (sl : StopLength) (n : Byte) (rest : List Byte) :
    decode sl (op :: n :: rest) = .ok (f n, rest) := by
  simp only [decode, h]

/-- The opcode `00 yyy 110` is the row of the immediate load of operand `yyy`. -/
theorem baseRow_ldN8 (r : R8) : baseRow (BitVec.ofNat 8 (8 * index r + 6)) = .n8 (ldN8Row r) := by
  cases r <;> rfl

/-! ### Register operands -/

variable {r : R8}

/-- Every operand but `(HL)` is a register. -/
theorem isIndirect_eq_false (h : r ≠ .hlInd) : isIndirect r = false := by
  cases r
  case hlInd => exact absurd rfl h
  all_goals rfl

/-- Writing a register operand changes that register and nothing else. -/
theorem r8Write_register (h : r ≠ .hlInd) (v : Byte) (s : State) : r8Write r v s = { s with regs := withReg r v s.regs } := by
  cases r
  case hlInd => exact absurd rfl h
  all_goals rfl

/-- Retiring with the register file `g` in place is going onward with `g`. -/
theorem retire_with_regs (len ticks : Nat) (g : Regs) (s : State) : retire len ticks { s with regs := g } = onward len ticks g s := rfl

/-- An immediate load of a register goes two bytes onward in 8 ticks. -/
theorem loadImm8_register (h : r ≠ .hlInd) (n : Byte) (s : State) : loadImm8 r n s = .next (onward 2 8 (withReg r n s.regs) s) := by
  rw [loadImm8, isIndirect_eq_false h, r8Write_register h, retire_with_regs]
  rfl

/-- Settles O2: the opcode of `LD r,n8` stands in the base map with format `op_n8`, and the load it decodes to writes a register. -/
theorem loadRegisterImmediate : Obligations.LoadRegisterImmediate := by
  intro r n h
  refine ⟨fun sl rest => decode_of_baseRow_n8 (baseRow_ldN8 r) sl n rest, fun s => ?_⟩
  rw [exec_ldN8Row, loadImm8_register h]

end Sys2Proof.Proofs
end

section
/-! PROOFS. The 8-bit add and logic primitives as numbers (R451, R453). -/

namespace Sys2Proof.Proofs

open Sys2Proof.Machine

/-! ### The add primitive -/

/-- A number narrowed to a byte is zero where its remainder by 256 is. -/
theorem ofNat_byte_beq_zero (n : Nat) : (BitVec.ofNat 8 n == 0) = decide (n % 256 = 0) := by
  rw [Bool.eq_iff_iff, beq_iff_eq, decide_eq_true_iff, ← BitVec.toNat_inj, BitVec.toNat_ofNat]
  rfl

/-- The sum is exact, narrowed to a byte (R16, R451). -/
theorem add8_value (a b : Byte) (cin : Bool) : (add8 a b cin).1.toNat = (a.toNat + b.toNat + cin.toNat) % 256 :=
  BitVec.toNat_ofNat ..

theorem add8_flags (a b : Byte) (cin : Bool) :
    (add8 a b cin).2
      = ⟨decide ((a.toNat + b.toNat + cin.toNat) % 256 = 0), false, decide (15 < a.toNat % 16 + b.toNat % 16 + cin.toNat),
          decide (255 < a.toNat + b.toNat + cin.toNat)⟩ := by
  simp only [add8, ofNat_byte_beq_zero, gt_iff_lt]

/-- Settles O9: the sum and its flags are those of the numbers; the logic primitives are given by value and flags as R453 lists them. -/
theorem addAndLogicPrimitives : Obligations.AddAndLogicPrimitives := by
  refine ⟨fun a b cin => ?add, fun a b => ?logic⟩
  case add => exact ⟨add8_value a b cin, add8_flags a b cin⟩
  case logic => exact ⟨rfl, rfl, rfl⟩

end Sys2Proof.Proofs
end

section
/-! PROOFS. CPL, SCF and CCF (R468, R469, R470): the opcode of CPL, and the registers each leaves. -/

namespace Sys2Proof.Proofs

open Sys2Proof.Machine Sys2Proof.Claims

/-- An opcode with no immediate decodes to its row and takes no byte after it (R300). -/
theorem decode_of_baseRow_op {op : Byte} {i : Instr} (h : baseRow op = .op i) (sl : StopLength) (rest : List Byte) :
    decode sl (op :: rest) = .ok (i, rest) := by
  simp only [decode, h]

theorem baseRow_cpl : baseRow 0x2F = .op .cpl := rfl

/-- Replacing the flags replaces them in the register file and nothing else. -/
theorem setFlags_eq_with_regs (f : Flags) (s : State) : s.setFlags f = { s with regs := { s.regs with flags := f } } := rfl

/-- Replacing A replaces it in the register file and nothing else. -/
theorem setA_eq_with_regs (v : Byte) (s : State) : s.setA v = { s with regs := { s.regs with a := v } } := rfl

theorem exec_cpl (s : State) :
    exec .cpl s
      = .next (onward 1 4 { s.regs with a := s.regs.a ^^^ 0xFF, flags := { s.regs.flags with n := true, h := true } } s) := by
  rw [show exec .cpl s = execCpl s from rfl, execCpl, setA_eq_with_regs, setFlags_eq_with_regs, retire_with_regs]
  rfl

theorem exec_scf (s : State) :
    exec .scf s = .next (onward 1 4 { s.regs with flags := { s.regs.flags with n := false, h := false, c := true } } s) := by
  rw [show exec .scf s = execScf s from rfl, execScf, setFlags_eq_with_regs, retire_with_regs]

theorem exec_ccf (s : State) :
    exec .ccf s
      = .next (onward 1 4 { s.regs with flags := { s.regs.flags with n := false, h := false, c := !s.regs.flags.c } } s) := by
  rw [show exec .ccf s = execCcf s from rfl, execCcf, setFlags_eq_with_regs, retire_with_regs]

/-- Settles O16: 0x2F stands in the base map as CPL with no immediate, and each of the three goes one byte onward with its own register file. -/
theorem complementAndCarryFlag : Obligations.ComplementAndCarryFlag :=
  ⟨decode_of_baseRow_op baseRow_cpl, fun s => ⟨exec_cpl s, exec_scf s, exec_ccf s⟩⟩

end Sys2Proof.Proofs
end

section
/-! PROOFS. The 16-bit arithmetic on register pairs (R501, R502, R503): the opcodes, and the register file each instruction leaves. -/

namespace Sys2Proof.Proofs

open Sys2Proof.Machine Sys2Proof.Claims Sys2Proof.Laws

variable (p : R16) (w : Word) (s : State)

/-! ### Decoding -/

/-- The opcode `00 pp1 001` is the row of `ADD HL,rr` for pair `pp`. -/
theorem baseRow_addHL : baseRow (BitVec.ofNat 8 (16 * pairIndex p + 9)) = .op (addHLRow p) := by
  cases p <;> rfl

/-- The opcode `00 pp0 011` is the row of `INC rr` for pair `pp`. -/
theorem baseRow_incPair : baseRow (BitVec.ofNat 8 (16 * pairIndex p + 3)) = .op (incPairRow p) := by
  cases p <;> rfl

/-- The opcode `00 pp1 011` is the row of `DEC rr` for pair `pp`. -/
theorem baseRow_decPair : baseRow (BitVec.ofNat 8 (16 * pairIndex p + 11)) = .op (decPairRow p) := by
  cases p <;> rfl

/-! ### Register pairs -/

/-- A pair operand is read from the register file alone. -/
theorem r16Val_eq_pairOf : r16Val p s = pairOf p s.regs := by
  cases p <;> rfl

/-- Writing a pair changes its two registers, or SP, and nothing else. -/
theorem r16Write_eq_with_regs : r16Write p w s = { s with regs := withPair p w s.regs } := by
  cases p <;> rfl

theorem hl_eq_hlOf : s.hl = hlOf s.regs := rfl

/-- Writing HL is writing that pair of the register file. -/
theorem setHl_eq_with_regs : s.setHl w = { s with regs := withPair .hl w s.regs } := rfl

/-! ### Execution -/

/-- The sum narrowed to a word, the carries out of bits 11 and 15 as comparisons of numbers, and Z as it was (R501). -/
theorem add16_eq (a b : Word) (f : Flags) :
    add16 a b f
      = (BitVec.ofNat 16 (a.toNat + b.toNat),
          ⟨f.z, false, decide (0x0FFF < a.toNat % 0x1000 + b.toNat % 0x1000), decide (0xFFFF < a.toNat + b.toNat)⟩) := by
  simp only [add16, gt_iff_lt]

/-- `ADD HL,rr` goes one byte onward in 8 ticks, with the sum in HL and its flags. -/
theorem addHl_eq_onward :
    addHl p s
      = .next (onward 1 8
          { withPair .hl (add16 (hlOf s.regs) (pairOf p s.regs) s.regs.flags).1 s.regs with
            flags := (add16 (hlOf s.regs) (pairOf p s.regs) s.regs.flags).2 } s) := by
  rw [addHl, hl_eq_hlOf, r16Val_eq_pairOf, setHl_eq_with_regs, setFlags_eq_with_regs, retire_with_regs]
  rfl

/-- `INC rr` goes one byte onward in 8 ticks, with the pair incremented. -/
theorem incPair_eq_onward : incPair p s = .next (onward 1 8 (withPair p (pairOf p s.regs + 1) s.regs) s) := by
  rw [incPair, r16Val_eq_pairOf, r16Write_eq_with_regs, retire_with_regs]

/-- `DEC rr` goes one byte onward in 8 ticks, with the pair decremented. -/
theorem decPair_eq_onward : decPair p s = .next (onward 1 8 (withPair p (pairOf p s.regs - 1) s.regs) s) := by
  rw [decPair, r16Val_eq_pairOf, r16Write_eq_with_regs, retire_with_regs]

/-- Settles O17: the opcode stands in the base map with no immediate, and the sum written to HL has the value and flags of the numbers. -/
theorem addToHl : Obligations.AddToHl := by
  intro p
  refine ⟨decode_of_baseRow_op (baseRow_addHL p), fun s => ?_⟩
  rw [exec_addHLRow, addHl_eq_onward, add16_eq]

/-- Settles O18: both opcodes stand in the base map with no immediate, and each instruction writes its pair of the register file only. -/
theorem pairIncrementsAndDecrements : Obligations.PairIncrementsAndDecrements := by
  intro p
  refine ⟨fun sl rest => ⟨?decodeInc, ?decodeDec⟩, fun s => ⟨?inc, ?dec⟩⟩
  case decodeInc => exact decode_of_baseRow_op (baseRow_incPair p) sl rest
  case decodeDec => exact decode_of_baseRow_op (baseRow_decPair p) sl rest
  case inc => rw [exec_incPairRow, incPair_eq_onward]
  case dec => rw [exec_decPairRow, decPair_eq_onward]

end Sys2Proof.Proofs
end

section
/-! PROOFS. The CB rotates and shifts (R535 to R542): the bits of a result, the CB bytes, and the state each operation leaves. -/

namespace Sys2Proof.Proofs

open Sys2Proof.Machine Sys2Proof.Claims Sys2Proof.Laws

/-! ### The bits of a result -/

section Bits
variable {j : Nat} (hj : j < 8)
include hj

/-- Bit `j` of the byte built from eight bits is the `j`th of them. -/
theorem getLsbD_byteOf (f : Nat → Bool) : (byteOf f).getLsbD j = f j := by
  simp only [byteOf, BitVec.getLsbD_append, BitVec.getLsbD_ofBool, -Nat.reduceAdd]
  interval_cases j <;> rfl

/-- A byte moved left by one, with `b` coming in at the bottom. -/
theorem getLsbD_shiftLeft_one (v : Byte) (b : BitVec 1) :
    (v.extractLsb' 0 7 ++ b).getLsbD j = if j = 0 then b.getLsbD 0 else v.getLsbD (j - 1) := by
  rw [BitVec.getLsbD_append, BitVec.getLsbD_extractLsb']
  by_cases h : j = 0
  · simp [h]
  · simp [h, show ¬ j < 1 by omega, show j - 1 < 7 by omega]

/-- A byte moved right by one, with `b` coming in at the top. -/
theorem getLsbD_shiftRight_one (v : Byte) (b : BitVec 1) :
    (b ++ v.extractLsb' 1 7).getLsbD j = if j = 7 then b.getLsbD 0 else v.getLsbD (j + 1) := by
  rw [BitVec.getLsbD_append, BitVec.getLsbD_extractLsb']
  by_cases h : j = 7
  · simp [h]
  · simp [h, show j < 7 by omega, Nat.add_comm]

/-- A byte with its nibbles exchanged. -/
theorem getLsbD_swapNibbles (v : Byte) : (v.extractLsb' 0 4 ++ v.extractLsb' 4 4).getLsbD j = v.getLsbD ((j + 4) % 8) := by
  rw [BitVec.getLsbD_append, BitVec.getLsbD_extractLsb', BitVec.getLsbD_extractLsb']
  by_cases h : j < 4
  · simp [h, show (j + 4) % 8 = 4 + j by omega]
  · simp [h, show j - 4 < 4 by omega, show (j + 4) % 8 = j - 4 by omega]

/-- Each bit of the result is the one that R535 to R542 put there. -/
theorem getLsbD_rotResult (op : RotOp) (v : Byte) (cy : Bool) : (rotResult op v cy).1.getLsbD j = shiftedBit op v cy j := by
  cases op <;> simp only [rotResult, shiftedBit]
  case rlc =>
    rw [getLsbD_shiftLeft_one hj]
    by_cases h : j = 0
    · simp [h]
    · rw [if_neg h, show (j + 7) % 8 = j - 1 by omega]
  case rrc =>
    rw [getLsbD_shiftRight_one hj]
    by_cases h : j = 7
    · simp [h]
    · rw [if_neg h, show (j + 1) % 8 = j + 1 by omega]
  case swap => exact getLsbD_swapNibbles hj v
  case rl | sla => rw [getLsbD_shiftLeft_one hj]; simp
  case rr | sra | srl => rw [getLsbD_shiftRight_one hj]; simp

end Bits

/-- The model's result and carry are the byte and the bit shifted out of R535 to R542. -/
theorem rotResult_eq (op : RotOp) (v : Byte) (cy : Bool) : rotResult op v cy = (shifted op v cy, shiftedOut op v) := by
  have hvalue : (rotResult op v cy).1 = shifted op v cy :=
    BitVec.eq_of_getLsbD_eq fun j hj => by rw [getLsbD_rotResult hj, shifted, getLsbD_byteOf hj]
  have hcarry : (rotResult op v cy).2 = shiftedOut op v := by cases op <;> rfl
  exact Prod.ext hvalue hcarry

/-! ### Decoding -/

/-- The opcode 0xCB takes the byte after it as a CB byte (R309, R311). -/
theorem decode_cb (cb : Byte) (sl : StopLength) (rest : List Byte) : decode sl (0xCB :: cb :: rest) = .ok (cbRow cb, rest) := rfl

/-- The CB byte `00 ooo zzz` is the row of operation `ooo` on operand `zzz`. -/
theorem cbRow_rot (op : RotOp) (x : R8) : cbRow (BitVec.ofNat 8 (8 * rotIndex op + index x)) = rotRow op x := by
  cases op <;> cases x <;> rfl

/-! ### Execution -/

/-- A register operand is read from the register file. -/
theorem r8Val_register {x : R8} (h : x ≠ .hlInd) (s : State) : r8Val x s = regOf x s.regs := by
  cases x
  case hlInd => exact absurd rfl h
  all_goals rfl

/-- The read of a register operand is no event. -/
theorem r8After_register {x : R8} (h : x ≠ .hlInd) (s : State) : r8After x s = s := by
  cases x
  case hlInd => exact absurd rfl h
  all_goals rfl

/-- The flags of R530 from the operand and the incoming carry. -/
theorem rotFlags_shifted (op : RotOp) (v : Byte) (cy : Bool) : rotFlags (shifted op v cy) (shiftedOut op v) = shiftFlags op v cy := rfl

/-- On a register: two bytes onward in 8 ticks. -/
theorem rotR8_register {x : R8} (h : x ≠ .hlInd) (op : RotOp) (s : State) :
    rotR8 op x s
      = .next (onward 2 8
          { withReg x (shifted op (regOf x s.regs) s.regs.flags.c) s.regs with
            flags := shiftFlags op (regOf x s.regs) s.regs.flags.c } s) := by
  rw [rotR8, rotResult_eq, rotFlags_shifted, r8Val_register h, r8After_register h, r8Write_register h, isIndirect_eq_false h,
    setFlags_eq_with_regs, retire_with_regs]
  rfl

/-- The state after a read and a write of the byte at HL has the registers it had before. -/
theorem modifyHl_regs (v : Byte) (s : State) : (modifyHl v s).regs = s.regs := by
  rw [modifyHl, memWrite_regs, readHl, afterRead_regs]

/-- A write of the operand `(HL)` after its read is the read and the store at the HL of before. -/
theorem r8Write_hlInd_r8After (v : Byte) (s : State) : r8Write .hlInd v (r8After .hlInd s) = modifyHl v s := by
  show memWrite (hlOf (afterRead s.hl s).regs) v (afterRead s.hl s) = modifyHl v s
  rw [afterRead_regs]
  rfl

/-- On (HL): the byte is read and the result stored, two bytes onward in 16 ticks. -/
theorem rotR8_hlInd (op : RotOp) (s : State) :
    rotR8 op .hlInd s
      = .next (onward 2 16 { s.regs with flags := shiftFlags op (atHl s) s.regs.flags.c }
          (modifyHl (shifted op (atHl s) s.regs.flags.c) s)) := by
  rw [rotR8, rotResult_eq, rotFlags_shifted, show r8Val .hlInd s = atHl s from rfl, r8Write_hlInd_r8After, setFlags_eq_with_regs,
    modifyHl_regs, retire_with_regs]
  rfl

/-- Settles O21: the CB byte selects the row of the operation, and its result, bit by bit that of the rules, goes to the register or is
stored at HL after the read there. -/
theorem rotatesAndShifts : Obligations.RotatesAndShifts := by
  intro op
  refine ⟨fun x sl rest => ?decode, fun s => ⟨fun x h => ?register, ?memory⟩⟩
  case decode => rw [decode_cb, cbRow_rot]
  case register => rw [exec_rotRow, rotR8_register h]
  case memory => rw [exec_rotRow, rotR8_hlInd]

end Sys2Proof.Proofs
end

section
/-! PROOFS. BIT b,r (R571): the CB bytes, and the state a test of one bit leaves. -/

namespace Sys2Proof.Proofs

open Sys2Proof.Machine Sys2Proof.Claims Sys2Proof.Laws

/-- The CB byte `01 bbb zzz` is the row of `BIT b` on operand `zzz`. -/
theorem cbRow_bit (b : Fin 8) (x : R8) : cbRow (BitVec.ofNat 8 (0x40 + 8 * b.val + index x)) = bitRow b x := by
  fin_cases b <;> cases x <;> rfl

/-- On a register: the flags alone change, two bytes onward in 8 ticks. -/
theorem testBit_register {x : R8} (h : x ≠ .hlInd) (b : Fin 8) (s : State) :
    testBit b x s
      = .next (onward 2 8 { s.regs with flags := ⟨!(regOf x s.regs).getLsbD b, false, true, s.regs.flags.c⟩ } s) := by
  rw [testBit, r8Val_register h, r8After_register h, isIndirect_eq_false h, setFlags_eq_with_regs, retire_with_regs]
  rfl

/-- On (HL): the flags alone change in the state after the read, two bytes onward in 12 ticks. -/
theorem testBit_hlInd (b : Fin 8) (s : State) :
    testBit b .hlInd s
      = .next (onward 2 12 { s.regs with flags := ⟨!(atHl s).getLsbD b, false, true, s.regs.flags.c⟩ } (readHl s)) := by
  rw [testBit, show r8Val .hlInd s = atHl s from rfl, show r8After .hlInd s = readHl s from rfl, setFlags_eq_with_regs,
    show (readHl s).regs = s.regs from afterRead_regs _ s, retire_with_regs]
  rfl

/-- Settles O22: the CB byte selects the row of the bit and operand, whose test changes the flags after the operand's read and writes
nothing else. -/
theorem bitTest : Obligations.BitTest := by
  intro b
  refine ⟨fun x sl rest => ?decode, fun s => ⟨fun x h => ?register, ?memory⟩⟩
  case decode => rw [decode_cb, cbRow_bit]
  case register => rw [exec_bitRow, testBit_register h]
  case memory => rw [exec_bitRow, testBit_hlInd]

end Sys2Proof.Proofs
end

section
/-! PROOFS. The delivery of ticks to the timer (R772 to R775): the increments of TIMA as one update, and the state a delivery leaves. -/

namespace Sys2Proof.Proofs

open Sys2Proof.Machine Sys2Proof.Claims

/-- The model's table of divisors is that of R772. -/
theorem timerDivisor_eq_divisor (tac : BitVec 3) : timerDivisor tac = divisor tac := by revert tac; decide

/-- An overflow seen before the count adds to those of the count, and does not change TIMA. -/
theorem counted_overflowed (tma v : Byte) (b : Bool) (n : Nat) :
    counted tma n (v, b) = ((counted tma n (v, false)).1, b || (counted tma n (v, false)).2) := by
  induction n generalizing v b with
  | zero => simp only [counted, Bool.or_false]
  | succ n ih =>
    simp only [counted]
    split
    · rw [ih tma true, Bool.true_or, Bool.or_true]
    · exact ih (v + 1) b

/-- The timer's request for whether an increment overflowed, in IF. -/
def timerRequest (overflowed : Bool) : BitVec 5 := if overflowed then 0b00100 else 0

theorem timerRequest_or (a b : Bool) : timerRequest (a || b) = timerRequest a ||| timerRequest b := by revert a b; decide

/-- `n` increments of TIMA, as one update: TIMA is the counted one, and IF[2] is set where one of them overflowed (R774). -/
theorem timaBumps_eq (n : Nat) (s : State) :
    timaBumps n s
      = { s with
          timer := { s.timer with tima := (counted s.timer.tma n (s.timer.tima, false)).1 }
          irq := { s.irq with
            iflag := s.irq.iflag ||| timerRequest (counted s.timer.tma n (s.timer.tima, false)).2 } } := by
  induction n generalizing s with
  | zero => simp [timaBumps, counted, timerRequest]
  | succ n ih =>
    simp only [timaBumps, counted]
    rw [ih, timaBump_eq]
    by_cases h : s.timer.tima = 0xFF
    · simp only [h, if_true]
      rw [counted_overflowed _ _ true, timerRequest_or, ← BitVec.or_assoc]
      rfl
    · have hirq : s.irq.iflag ||| 0 = s.irq.iflag := BitVec.or_zero
      simp only [h, if_false, hirq]

theorem timerTick_stopped (t : Nat) {s : State} (h : s.timer.tac.getLsbD 2 = false) :
    timerTick t s = { s with timer := dividerTick t s.timer } := by
  simp only [timerTick, counterTick, dividerTick, h, Bool.false_eq_true, if_false]

theorem timerTick_running (t : Nat) {s : State} (h : s.timer.tac.getLsbD 2 = true) :
    timerTick t s
      = timaBumps ((s.timer.timaAcc + t) / divisor s.timer.tac)
          { s with timer := { dividerTick t s.timer with timaAcc := (s.timer.timaAcc + t) % divisor s.timer.tac } } := by
  simp only [timerTick, counterTick, dividerTick, h, if_true, timerDivisor_eq_divisor]

/-- Settles O55: the divider counts in every delivery, and TAC[2] decides whether the increments of TIMA are counted too. -/
theorem timerDelivery : Obligations.TimerDelivery := by
  intro t s
  cases h : s.timer.tac.getLsbD 2 with
  | false =>
    rw [timerTick_stopped t h]
    exact ⟨rfl, rfl, fun _ => ⟨rfl, rfl, rfl⟩, fun on => Bool.noConfusion on, rfl, rfl, rfl⟩
  | true =>
    rw [timerTick_running t h, timaBumps_eq]
    exact ⟨rfl, rfl, fun off => Bool.noConfusion off, fun _ => ⟨rfl, rfl, rfl⟩, rfl, rfl, rfl⟩

end Sys2Proof.Proofs
end

section
/-! PROOFS. The decoder and the encoder (R300, R306, R309, R312, R315): which instruction and bytes a row of the base map gives, and that both
directions follow it. -/

namespace Sys2Proof.Proofs

open Sys2Proof.Machine Sys2Proof.Claims Sys2Proof.Laws

/-- The two bytes of a word put it together again. -/
theorem join_hi8_lo8 (w : Word) : join (hi8 w) (lo8 w) = w := BitVec.extractLsb'_append_extractLsb' (w := 8) (len := 8)

theorem hi8_join (h l : Byte) : hi8 (join h l) = h := BitVec.extractLsb'_append_eq_left

theorem lo8_join (h l : Byte) : lo8 (join h l) = l := BitVec.extractLsb'_append_eq_right

/-- The bytes after the opcode of STOP, as the encoder writes them (R652, log 8). -/
def stopTail (sl : StopLength) : List Byte :=
  match sl with
  | .one => []
  | .two => [0x00]

/-- A row of the base map gives the instruction `i` with the bytes `tail` after its opcode (R300, R302). -/
def RowGives (sl : StopLength) (i : Instr) (tail : List Byte) (r : Row) : Prop :=
  match r with
  | .op j => i = j ∧ tail = []
  | .n8 f | .a8 f | .e8 f => ∃ n, i = f n ∧ tail = [n]
  | .n16 f | .a16 f => ∃ w, i = f w ∧ tail = [lo8 w, hi8 w]
  | .cb => ∃ b, i = cbRow b ∧ tail = [b]
  | .x8 j => i = j ∧ tail = stopTail sl

/-- The decoder follows the row of the first byte. -/
theorem decode_of_rowGives {sl : StopLength} {i : Instr} {op : Byte} {tail : List Byte} (h : RowGives sl i tail (baseRow op))
    (rest : List Byte) : decode sl (op :: tail ++ rest) = .ok (i, rest) := by
  cases hr : baseRow op <;> rw [hr] at h
  case op => obtain ⟨rfl, rfl⟩ := h; exact decode_of_baseRow_op hr sl rest
  case n8 => obtain ⟨n, rfl, rfl⟩ := h; exact decode_of_baseRow_n8 hr sl n rest
  case a8 | e8 | cb => obtain ⟨n, rfl, rfl⟩ := h; simp only [decode, hr, List.cons_append, List.nil_append]
  case n16 | a16 =>
    obtain ⟨w, rfl, rfl⟩ := h
    simp only [decode, hr, List.cons_append, List.nil_append, join_hi8_lo8]
  case x8 =>
    obtain ⟨rfl, rfl⟩ := h
    cases sl <;> simp only [decode, hr, stopTail, List.cons_append, List.nil_append]

/-! ### Every well-formed instruction stands in the map -/

/-- Every well-formed instruction is given by the row of the first byte of its encoding, with the other bytes of it. -/
theorem encode_rowGives (sl : StopLength) (i : Instr) (hi : i.wellFormed = true) :
    ∃ op tail, encode sl i = op :: tail ∧ RowGives sl i tail (baseRow op) := by
  cases shape_of i
  case s_prefixCb => exact Bool.noConfusion hi
  case s_stop => cases sl <;> exact ⟨_, _, rfl, rfl, rfl⟩
  case ld dst src => cases dst <;> cases src <;> exact ⟨_, _, rfl, rfl, rfl⟩
  case alu op r => cases op <;> cases r <;> exact ⟨_, _, rfl, rfl, rfl⟩
  case rot op x => cases op <;> cases x <;> exact ⟨_, _, rfl, _, rfl, rfl⟩
  case bit b x | res b x | set b x => fin_cases b <;> cases x <;> exact ⟨_, _, rfl, _, rfl, rfl⟩
  case rst y => fin_cases y <;> exact ⟨_, _, rfl, rfl, rfl⟩
  case ldN8 r n | aluN8 r n => cases r <;> exact ⟨_, _, rfl, _, rfl, rfl⟩
  case ldN16 p nn => cases p <;> exact ⟨_, _, rfl, _, rfl, rfl⟩
  case jp cc w | jr cc w | call cc w => cases cc <;> exact ⟨_, _, rfl, _, rfl, rfl⟩
  case inc x | dec x | addHl x | incPair x | decPair x | push x | pop x | ret x => cases x <;> exact ⟨_, _, rfl, rfl, rfl⟩
  case s_ldIndA16_SP | s_jrE8 | s_jpA16 | s_callA16 | s_ldhIndA8_A | s_addSP_E8 | s_ldIndA16_A | s_ldhA_IndA8 | s_ldHL_SPE8
    | s_ldA_IndA16 => exact ⟨_, _, rfl, _, rfl, rfl⟩
  all_goals exact ⟨_, _, rfl, rfl, rfl⟩

/-- Settles O53: the encoding of a well-formed instruction begins with an opcode whose row gives the instruction and the bytes after it,
and the decoder follows that row. -/
theorem decodeOfEncode : Obligations.DecodeOfEncode := by
  intro sl i rest hi
  obtain ⟨op, tail, he, hg⟩ := encode_rowGives sl i hi
  rw [he]
  exact decode_of_rowGives hg rest

/-! ### Every row of the map is encoded by its own bytes -/

/-- What the encoder writes for the instructions of the row at `op`; 0xCB and STOP have one opcode each (R310, R652, R656). -/
def RowEncodes (op : Byte) (r : Row) : Prop :=
  match r with
  | .op i => ∀ sl, encode sl i = [op]
  | .n8 f | .a8 f | .e8 f => ∀ sl n, encode sl (f n) = [op, n]
  | .n16 f | .a16 f => ∀ sl w, encode sl (f w) = [op, lo8 w, hi8 w]
  | .cb => op = 0xCB
  | .x8 i => op = 0x10 ∧ i = .stop

theorem baseRow_rowEncodes (op : Byte) : RowEncodes op (baseRow op) := by
  have key : ∀ k : Fin 256, RowEncodes (BitVec.ofFin k) (baseRow (BitVec.ofFin k)) := by
    intro k
    fin_cases k <;> first
      | exact fun _ => (rfl : _ = [_])
      | exact fun _ _ => (rfl : _ = _ :: _)
      | exact (rfl : _ = (0xCB : Byte))
      | exact ⟨rfl, rfl⟩
  exact key op.toFin

/-- The CB byte follows the opcode 0xCB in the encoding of its row (R309). -/
theorem encode_cbRow (sl : StopLength) (cb : Byte) : encode sl (cbRow cb) = [0xCB, cb] := by
  have key : ∀ k : Fin 256, encode sl (cbRow (BitVec.ofFin k)) = [0xCB, BitVec.ofFin k] := by
    intro k
    fin_cases k <;> rfl
  exact key cb.toFin

/-! ### Decoding is total -/

/-- What O54 says of one first byte and the bytes after it. -/
def DecodesTotally (sl : StopLength) (op : Byte) (rest : List Byte) (n : Nat) : Prop :=
  (n ≤ rest.length + 1 →
    ∃ i : Instr, decode sl (op :: rest) = .ok (i, rest.drop (n - 1)) ∧ i.wellFormed = true
      ∧ (op ≠ 0x10 → encode sl i = (op :: rest).take n) ∧ (op = 0x10 → i = .stop))
  ∧ (rest.length + 1 < n → decode sl (op :: rest) = .error .truncated)

/-- Only 0x10 stands in the row of STOP. -/
theorem ne_stop_of_baseRow {op : Byte} {r : Row} (hr : baseRow op = r) (h : r ≠ .x8 .stop) : op ≠ 0x10 := by
  rintro rfl
  exact h (hr.symm.trans rfl)

/-- A row of one byte: the opcode alone decodes. -/
theorem decodesTotally_one {sl : StopLength} {op : Byte} {i : Instr} (rest : List Byte)
    (hd : decode sl (op :: rest) = .ok (i, rest)) (hw : i.wellFormed = true)
    (he : op ≠ 0x10 → encode sl i = [op]) (hs : op = 0x10 → i = .stop) : DecodesTotally sl op rest 1 :=
  ⟨fun _ => ⟨i, hd, hw, he, hs⟩, fun h => absurd h (by omega)⟩

/-- A row of two bytes: `f` gives the instruction of the byte after the opcode. -/
theorem decodesTotally_two {sl : StopLength} {op : Byte} {f : Byte → Instr} (rest : List Byte)
    (hd : ∀ b tail, decode sl (op :: b :: tail) = .ok (f b, tail)) (ht : decode sl [op] = .error .truncated)
    (hw : ∀ b, (f b).wellFormed = true) (he : op ≠ 0x10 → ∀ b, encode sl (f b) = [op, b]) (hs : op = 0x10 → ∀ b, f b = .stop) :
    DecodesTotally sl op rest 2 := by
  cases rest with
  | nil => exact ⟨fun h => absurd h (by simp), fun _ => ht⟩
  | cons b tail => exact ⟨fun _ => ⟨f b, hd b tail, hw b, fun h => he h b, fun h => hs h b⟩, fun h => absurd h (by simp)⟩

/-- A row of three bytes: `f` gives the instruction of the word after the opcode, low byte first (R302). -/
theorem decodesTotally_three {sl : StopLength} {op : Byte} {f : Word → Instr} (rest : List Byte)
    (hd : ∀ lo hi tail, decode sl (op :: lo :: hi :: tail) = .ok (f (join hi lo), tail))
    (ht : decode sl [op] = .error .truncated ∧ ∀ b, decode sl [op, b] = .error .truncated)
    (hw : ∀ w, (f w).wellFormed = true) (he : ∀ w, encode sl (f w) = [op, lo8 w, hi8 w]) (hs : op ≠ 0x10) :
    DecodesTotally sl op rest 3 := by
  match rest with
  | [] => exact ⟨fun h => absurd h (by simp), fun _ => ht.1⟩
  | [b] => exact ⟨fun h => absurd h (by simp), fun _ => ht.2 b⟩
  | lo :: hi :: tail =>
    refine ⟨fun _ => ⟨f (join hi lo), hd lo hi tail, hw _, fun _ => ?_, fun h => absurd h hs⟩, fun h => absurd h (by simp)⟩
    rw [he, hi8_join, lo8_join]
    rfl

/-- Settles O54: the row of the first byte says how many bytes it takes, its instruction is well-formed, and the encoder writes those bytes. -/
theorem decodingIsTotal : Obligations.DecodingIsTotal := by
  intro sl op rest
  show DecodesTotally sl op rest ((baseRow op).length sl)
  have hg := baseRow_good op
  have he := baseRow_rowEncodes op
  cases hr : baseRow op <;> rw [hr] at hg he
  case op i =>
    have hs := ne_stop_of_baseRow hr (by simp)
    exact decodesTotally_one rest (decode_of_baseRow_op hr sl rest) hg (fun _ => he sl) (fun h => absurd h hs)
  case n8 f | a8 f | e8 f =>
    have hs := ne_stop_of_baseRow hr (by simp)
    exact decodesTotally_two rest (fun b tail => by simp only [decode, hr]) (by simp only [decode, hr]) hg (fun _ => he sl)
      (fun h => absurd h hs)
  case cb =>
    have hs := ne_stop_of_baseRow hr (by simp)
    obtain rfl : op = 0xCB := he
    exact decodesTotally_two rest (fun b tail => rfl) rfl cbRow_wellFormed (fun _ => encode_cbRow sl) (fun h => absurd h hs)
  case n16 f | a16 f =>
    have hs := ne_stop_of_baseRow hr (by simp)
    exact decodesTotally_three rest (fun lo hi tail => by simp only [decode, hr])
      ⟨by simp only [decode, hr], fun b => by simp only [decode, hr]⟩ hg (he sl) hs
  case x8 i =>
    obtain ⟨rfl, rfl⟩ := he
    cases sl
    case one => exact decodesTotally_one rest rfl rfl (fun h => absurd rfl h) (fun _ => rfl)
    case two =>
      exact decodesTotally_two (f := fun _ => .stop) rest (fun b tail => rfl) rfl (fun _ => rfl) (fun h => absurd rfl h)
        (fun _ _ => rfl)

/-- Settles O52: each word is an opcode of the base map, or a CB byte after 0xCB, with its immediate. -/
theorem sampleWordsDecode : Obligations.SampleWordsDecode := by
  intro sl rest
  exact ⟨rfl, rfl, rfl, rfl, rfl, rfl, rfl, rfl, rfl, rfl, rfl, rfl, rfl, rfl, rfl, rfl, rfl⟩

end Sys2Proof.Proofs
end

section
/-! PROOFS. The loads, the stores and the stack transfers (R400 to R422): the address and operand forms, and the state each leaves. -/

namespace Sys2Proof.Proofs

open Sys2Proof.Machine Sys2Proof.Claims Sys2Proof.Laws

variable {len ticks : Nat} {g : Regs} {m : State} (a w : Word) (v : Byte) (s : State)

/-! ### Ends of an instruction -/

/-- Retiring from a state whose registers are `g` is going onward with `g`. -/
theorem retire_eq_onward (h : m.regs = g) : retire len ticks m = onward len ticks g m := by
  subst h
  rfl

/-! ### Operands and addresses -/

theorem r8Write_hlInd : r8Write .hlInd v s = memWrite (hlOf s.regs) v s := rfl

theorem setSp_eq_with_regs : s.setSp w = { s with regs := { s.regs with sp := w } } := rfl

@[simp] theorem readHl_regs : (readHl s).regs = s.regs := afterRead_regs _ s

/-- The high page is the 256 addresses from 0xFF00 (R302). -/
theorem highPage_eq (n : Byte) : highPage n = 0xFF00 + n.setWidth 16 := by
  have hn := n.isLt
  apply BitVec.eq_of_toNat_eq
  simp only [highPage, join, BitVec.toNat_append, BitVec.toNat_add, BitVec.toNat_setWidth]
  rw [← Nat.shiftLeft_add_eq_or_of_lt hn]
  simp only [BitVec.reduceToNat, Nat.reduceShiftLeft]
  omega

/-- The byte form of the flags, bit by bit (R102). -/
theorem toByte_eq_flagByte (f : Flags) : f.toByte = flagByte f := by
  obtain ⟨z, n, h, c⟩ := f
  revert z n h c
  decide

theorem r16pVal_eq_stackPairOf (q : R16P) : r16pVal q s = stackPairOf q s.regs := by
  cases q
  case af => rw [stackPairOf, ← toByte_eq_flagByte]; rfl
  all_goals rfl

/-- F from the low byte of a word discards its bits 3:0 (R421). -/
theorem ofByte_lo8 : Flags.ofByte (lo8 w) = ⟨w.getLsbD 7, w.getLsbD 6, w.getLsbD 5, w.getLsbD 4⟩ := by
  simp [Flags.ofByte, lo8]

theorem r16pWrite_eq_with_regs (q : R16P) : r16pWrite q w s = { s with regs := withStackPair q w s.regs } := by
  cases q
  case af => rw [r16pWrite, ofByte_lo8]; rfl
  all_goals rfl

/-! ### The stack -/

/-- `Push16` stores two bytes and moves SP down by two, with nothing else changed. -/
theorem push16_eq_pushed : push16 w s = { pushed w s with regs := { s.regs with sp := s.regs.sp - 2 } } := by
  rw [push16_eq, setSp_eq_with_regs, memWrite_regs, memWrite_regs]
  rfl

theorem popVal_eq_poppedWord : popVal s = poppedWord s := rfl

/-- `Pop16` reads two bytes and moves SP up by two, with nothing else changed. -/
theorem popAfter_eq_poppedState : popAfter s = { poppedState s with regs := { s.regs with sp := s.regs.sp + 2 } } := by
  rw [popAfter, setSp_eq_with_regs, afterReadWord, afterRead_regs, afterRead_regs]
  rfl

/-! ### The shared forms of the loads -/

theorem loadA_eq_onward :
    loadA a len ticks s = .next (onward len ticks { s.regs with a := readVal a s } (afterRead a s)) := by
  rw [loadA, setA_eq_with_regs, retire_with_regs, afterRead_regs]

/-- An instruction that runs the shared load at an address loads A from it. -/
theorem loadsA_of {i : Instr} {addr : Regs → Word} (h : ∀ s, exec i s = loadA (addr s.regs) len ticks s) :
    LoadsA i len ticks addr := fun s => (h s).trans (loadA_eq_onward _ s)

theorem storeA_eq_onward : storeA a len ticks s = .next (onward len ticks s.regs (memWrite a s.regs.a s)) := by
  rw [storeA, retire_eq_onward (memWrite_regs ..)]

/-- An instruction that runs the shared store at an address stores A at it. -/
theorem storesA_of {i : Instr} {addr : Regs → Word} (h : ∀ s, exec i s = storeA (addr s.regs) len ticks s) :
    StoresA i len ticks addr := fun s => (h s).trans (storeA_eq_onward _ s)

theorem loadAStep_eq_onward :
    loadAStep w s = .next (onward 1 8 (withPair .hl (hlOf s.regs + w) { s.regs with a := atHl s }) (readHl s)) := by
  rw [loadAStep, setA_eq_with_regs, setHl_eq_with_regs, retire_with_regs, hl_eq_hlOf, afterRead_regs]
  rfl

theorem storeAStep_eq_onward :
    storeAStep w s = .next (onward 1 8 (withPair .hl (hlOf s.regs + w) s.regs) (memWrite (hlOf s.regs) s.regs.a s)) := by
  rw [storeAStep, setHl_eq_with_regs, retire_with_regs, hl_eq_hlOf, memWrite_regs]

theorem loadImm16_eq_onward (p : R16) : loadImm16 p w s = .next (onward 3 12 (withPair p w s.regs) s) := by
  rw [loadImm16, r16Write_eq_with_regs, retire_with_regs]

theorem pushPair_eq_onward (q : R16P) :
    pushPair q s = .next (onward 1 16 { s.regs with sp := s.regs.sp - 2 } (pushed (stackPairOf q s.regs) s)) := by
  rw [pushPair, r16pVal_eq_stackPairOf, push16_eq_pushed, retire_with_regs]

theorem popPair_eq_onward (q : R16P) :
    popPair q s
      = .next (onward 1 12 (withStackPair q (poppedWord s) { s.regs with sp := s.regs.sp + 2 }) (poppedState s)) := by
  rw [popPair, popVal_eq_poppedWord, popAfter_eq_poppedState, r16pWrite_eq_with_regs, retire_with_regs]
  rfl

/-! ### The loads between operands -/

section Register
variable {dst src : R8}

theorem exec_ld_register (hd : dst ≠ .hlInd) (hs : src ≠ .hlInd) :
    exec (ldRow dst src) s = .next (onward 1 4 (withReg dst (regOf src s.regs) s.regs) s) := by
  rw [exec_ldRow _ _ (.inl (isIndirect_eq_false hd)), loadR8, r8Val_register hs, r8After_register hs, r8Write_register hd,
    isIndirect_eq_false hd, isIndirect_eq_false hs, retire_with_regs]
  rfl

theorem exec_ld_from_hl (hd : dst ≠ .hlInd) :
    exec (ldRow dst .hlInd) s = .next (onward 1 8 (withReg dst (atHl s) s.regs) (readHl s)) := by
  rw [exec_ldRow _ _ (.inl (isIndirect_eq_false hd)), loadR8, r8Write_register hd, retire_with_regs, isIndirect_eq_false hd,
    show r8After .hlInd s = readHl s from rfl, readHl_regs]
  rfl

theorem exec_ld_to_hl (hs : src ≠ .hlInd) :
    exec (ldRow .hlInd src) s = .next (onward 1 8 s.regs (memWrite (hlOf s.regs) (regOf src s.regs) s)) := by
  rw [exec_ldRow _ _ (.inr (isIndirect_eq_false hs)), loadR8, r8Val_register hs, r8After_register hs, r8Write_hlInd,
    retire_eq_onward (memWrite_regs ..)]
  rfl

end Register

theorem exec_ldIndHL_N8 : exec (.ldIndHL_N8 v) s = .next (onward 2 12 s.regs (memWrite (hlOf s.regs) v s)) := by
  rw [show exec (.ldIndHL_N8 v) s = loadImm8 .hlInd v s from rfl, loadImm8, r8Write_hlInd,
    retire_eq_onward (memWrite_regs ..)]
  rfl

/-- LD (a16),SP stores the low byte of SP first (R419). -/
theorem exec_ldIndA16_SP :
    exec (.ldIndA16_SP a) s
      = .next (onward 3 20 s.regs (memWrite (a + 1) (s.regs.sp.extractLsb' 8 8) (memWrite a (s.regs.sp.extractLsb' 0 8) s))) := by
  rw [show exec (.ldIndA16_SP a) s = execLdIndA16_SP a s from rfl, execLdIndA16_SP, writeWord,
    retire_eq_onward ((memWrite_regs ..).trans (memWrite_regs ..))]
  rfl

/-! ### The statements -/

/-- Settles O1: a register is read and a register is written, each in the register file only. -/
theorem loadRegisterFromRegister : Obligations.LoadRegisterFromRegister :=
  fun _ _ s hd hs => exec_ld_register s hd hs

/-- Settles O3: the register file is that of before, so the one access is at the HL of before. -/
theorem loadsAndStoresThroughHl : Obligations.LoadsAndStoresThroughHl :=
  ⟨fun _ s hd => exec_ld_from_hl s hd, fun _ s hs => exec_ld_to_hl s hs, fun n s => exec_ldIndHL_N8 n s⟩

/-- Settles O4: each form is the shared load of A at its own address. -/
theorem accumulatorLoads : Obligations.AccumulatorLoads := by
  refine ⟨?_, ?_, ?_, ?_, ?_⟩
  · exact loadsA_of fun _ => rfl
  · exact loadsA_of fun _ => rfl
  · exact fun aa => loadsA_of fun _ => rfl
  · exact fun n => loadsA_of fun s => congrArg (loadA · 2 12 s) (highPage_eq n)
  · exact loadsA_of fun s => congrArg (loadA · 1 8 s) (highPage_eq s.regs.c)

/-- Settles O5: each form is the shared store of A at its own address. -/
theorem accumulatorStores : Obligations.AccumulatorStores := by
  refine ⟨?_, ?_, ?_, ?_, ?_⟩
  · exact storesA_of fun _ => rfl
  · exact storesA_of fun _ => rfl
  · exact fun aa => storesA_of fun _ => rfl
  · exact fun n => storesA_of fun s => congrArg (storeA · 2 12 s) (highPage_eq n)
  · exact storesA_of fun s => congrArg (storeA · 1 8 s) (highPage_eq s.regs.c)

/-- Settles O6: the access is made with the HL of before, and a step of -1 is the step of 0xFFFF modulo 2^16. -/
theorem steppingLoads : Obligations.SteppingLoads := by
  intro s
  have hsub : hlOf s.regs - 1 = hlOf s.regs + (-1) := BitVec.sub_eq_add_neg ..
  rw [hsub]
  exact ⟨storeAStep_eq_onward 1 s, loadAStep_eq_onward 1 s, storeAStep_eq_onward (-1) s, loadAStep_eq_onward (-1) s⟩

/-- Settles O7: the immediate goes to the pair, SP to two bytes of memory, or HL to SP. -/
theorem wordLoads : Obligations.WordLoads := by
  refine ⟨fun p nn s => ?imm, fun aa s => exec_ldIndA16_SP aa s, fun s => ?sp⟩
  case imm => rw [exec_ldN16Row, loadImm16_eq_onward]
  case sp => rw [show exec .ldSP_HL s = execLdSP_HL s from rfl, execLdSP_HL, setSp_eq_with_regs, retire_with_regs, hl_eq_hlOf]

/-- Settles O8: PUSH makes the two stores of `Push16` and POP the two reads of `Pop16`, with SP moved by two either way. -/
theorem stackTransfers : Obligations.StackTransfers :=
  fun q s => ⟨(exec_pushRow q s).trans (pushPair_eq_onward s q), (exec_popRow q s).trans (popPair_eq_onward s q)⟩

end Sys2Proof.Proofs
end

section
/-! PROOFS. 8-bit arithmetic on operands, the rotates of A, the SP offsets and the single bits (R450 to R465, R504, R505, R530 to R534, R572,
R573): the state each leaves. -/

namespace Sys2Proof.Proofs

open Sys2Proof.Machine Sys2Proof.Claims Sys2Proof.Laws

variable (v : Byte) (s : State)

/-! ### The ALU block -/

/-- What the operation does to A and the flags, read off its result. -/
theorem with_aluResult_eq (op : AluOp) (g : Regs) :
    { g with a := (aluResult op g.a v g.flags.c).1, flags := (aluResult op g.a v g.flags.c).2 } = aluEffect op v g := by
  cases op <;> rfl

theorem aluImm_eq_onward (op : AluOp) : aluImm op v s = .next (onward 2 8 (aluEffect op v s.regs) s) := by
  rw [aluImm, setA_eq_with_regs, setFlags_eq_with_regs, retire_with_regs, ← with_aluResult_eq]
  rfl

theorem aluR8_register {r : R8} (h : r ≠ .hlInd) (op : AluOp) :
    aluR8 op r s = .next (onward 1 4 (aluEffect op (regOf r s.regs) s.regs) s) := by
  rw [aluR8, r8Val_register h, r8After_register h, isIndirect_eq_false h, setA_eq_with_regs, setFlags_eq_with_regs,
    retire_with_regs, ← with_aluResult_eq]
  rfl

theorem aluR8_hlInd (op : AluOp) : aluR8 op .hlInd s = .next (onward 1 8 (aluEffect op (atHl s) s.regs) (readHl s)) := by
  rw [aluR8, show r8Val .hlInd s = atHl s from rfl, show r8After .hlInd s = readHl s from rfl, setA_eq_with_regs,
    setFlags_eq_with_regs, retire_with_regs, readHl_regs, ← with_aluResult_eq]
  rfl

/-- Settles O11: the primitive takes the operand's byte, and A and the flags alone are written in the state after its read. -/
theorem aluInstructions : Obligations.AluInstructions := by
  intro op s
  refine ⟨fun r h => ?register, ?memory, fun n => ?immediate⟩
  case register => rw [exec_aluRow, aluR8_register s h]
  case memory => rw [exec_aluRow, aluR8_hlInd]
  case immediate => rw [exec_aluN8Row, aluImm_eq_onward]

/-! ### INC and DEC -/

theorem toNat_extractLsb'_nibble : (v.extractLsb' 0 4).toNat = v.toNat % 16 := by
  simp [BitVec.extractLsb'_toNat]

/-- The low nibble as a bit vector and as a number (R462, R464). -/
theorem nibble_beq (k : BitVec 4) : (v.toNat % 16 == k.toNat) = (v.extractLsb' 0 4 == k) := by
  rw [Bool.eq_iff_iff, beq_iff_eq, beq_iff_eq, ← BitVec.toNat_inj, toNat_extractLsb'_nibble]

/-- The increment is exact and narrowed, and is 0 only from 0xFF (R462). -/
theorem inc8_eq (f : Flags) : inc8 v f = (v + 1, incFlags v f) := by
  have hv : BitVec.ofNat 8 (v.toNat + 1) = v + 1 := by bv_omega
  have hz : (v + 1 == 0) = (v == 0xFF) := by
    rw [Bool.eq_iff_iff, beq_iff_eq, beq_iff_eq]
    bv_omega
  have hh : (v.toNat % 16 == 0xF) = (v.extractLsb' 0 4 == 0xF) := nibble_beq v 0xF
  simp only [inc8, hv, hz, hh, incFlags]

/-- The decrement is exact and narrowed, and is 0 only from 1 (R464). -/
theorem dec8_eq (f : Flags) : dec8 v f = (v - 1, decFlags v f) := by
  have hv : BitVec.ofInt 8 ((v.toNat : Int) - 1) = v - 1 := by
    rw [Int.sub_eq_add_neg, BitVec.ofInt_add, BitVec.ofInt_natCast, BitVec.ofNat_toNat, BitVec.setWidth_eq, BitVec.sub_eq_add_neg]
    rfl
  have hz : (v - 1 == 0) = (v == 0x01) := by
    rw [Bool.eq_iff_iff, beq_iff_eq, beq_iff_eq]
    bv_omega
  have hh : (v.toNat % 16 == 0x0) = (v.extractLsb' 0 4 == 0x0) := nibble_beq v 0x0
  simp only [dec8, hv, hz, hh, decFlags]

theorem incR8_register {r : R8} (h : r ≠ .hlInd) :
    incR8 r s
      = .next (onward 1 4 { withReg r (regOf r s.regs + 1) s.regs with flags := incFlags (regOf r s.regs) s.regs.flags } s) := by
  rw [incR8, inc8_eq, r8Val_register h, r8After_register h, r8Write_register h, isIndirect_eq_false h, setFlags_eq_with_regs,
    retire_with_regs]
  rfl

theorem decR8_register {r : R8} (h : r ≠ .hlInd) :
    decR8 r s
      = .next (onward 1 4 { withReg r (regOf r s.regs - 1) s.regs with flags := decFlags (regOf r s.regs) s.regs.flags } s) := by
  rw [decR8, dec8_eq, r8Val_register h, r8After_register h, r8Write_register h, isIndirect_eq_false h, setFlags_eq_with_regs,
    retire_with_regs]
  rfl

theorem incR8_hlInd :
    incR8 .hlInd s = .next (onward 1 12 { s.regs with flags := incFlags (atHl s) s.regs.flags } (modifyHl (atHl s + 1) s)) := by
  rw [incR8, inc8_eq, show r8Val .hlInd s = atHl s from rfl, r8Write_hlInd_r8After, setFlags_eq_with_regs, modifyHl_regs,
    retire_with_regs]
  rfl

theorem decR8_hlInd :
    decR8 .hlInd s = .next (onward 1 12 { s.regs with flags := decFlags (atHl s) s.regs.flags } (modifyHl (atHl s - 1) s)) := by
  rw [decR8, dec8_eq, show r8Val .hlInd s = atHl s from rfl, r8Write_hlInd_r8After, setFlags_eq_with_regs, modifyHl_regs,
    retire_with_regs]
  rfl

/-- Settles O12: value and flags are those of the operand's byte, and on (HL) the store follows the read at the same address. -/
theorem byteIncrementsAndDecrements : Obligations.ByteIncrementsAndDecrements := by
  intro s
  refine ⟨fun r h => ⟨?inc, ?dec⟩, ?incMemory, ?decMemory⟩
  case inc => rw [exec_incRow, incR8_register s h]
  case dec => rw [exec_decRow, decR8_register s h]
  case incMemory => exact incR8_hlInd s
  case decMemory => exact decR8_hlInd s

/-! ### The rotates of A -/

theorem rotA_eq_onward (op : RotOp) :
    rotA op s
      = .next (onward 1 4
          { s.regs with
            a := shifted op s.regs.a s.regs.flags.c
            flags := ⟨false, false, false, shiftedOut op s.regs.a⟩ } s) := by
  rw [rotA, rotResult_eq, setA_eq_with_regs, setFlags_eq_with_regs, retire_with_regs]
  rfl

/-- Settles O20: each of the four runs the rotate of A of its operation, whose result is that of the CB form and whose Z is 0. -/
theorem accumulatorRotates : Obligations.AccumulatorRotates := by
  intro s op hop
  simp only [List.mem_cons, List.not_mem_nil, or_false] at hop
  obtain rfl | rfl | rfl | rfl := hop
  · exact rotA_eq_onward s .rlc
  · exact rotA_eq_onward s .rrc
  · exact rotA_eq_onward s .rl
  · exact rotA_eq_onward s .rr

/-! ### The SP offsets -/

/-- The exact sum of SP and the signed displacement, narrowed, is the sum with the sign-extended displacement (R504). -/
theorem addSpOffset_eq (sp : Word) (e : Byte) :
    addSpOffset sp e
      = (sp + e.signExtend 16,
          ⟨false, false, decide (0x0F < sp.toNat % 0x10 + e.toNat % 0x10), decide (0xFF < sp.toNat % 0x100 + e.toNat)⟩) := by
  have hw : BitVec.ofInt 16 ((sp.toNat : Int) + e.toInt) = sp + e.signExtend 16 := by
    rw [BitVec.ofInt_add, BitVec.ofInt_natCast, BitVec.ofNat_toNat, BitVec.setWidth_eq]
    rfl
  simp only [addSpOffset, hw, gt_iff_lt]

/-- Settles O19: both forms compute the one sum and its flags, and write SP or HL. -/
theorem stackPointerOffsets : Obligations.StackPointerOffsets := by
  intro e s
  refine ⟨?sp, ?hl⟩
  case sp =>
    rw [show exec (.addSP_E8 e) s = execAddSP_E8 e s from rfl, execAddSP_E8, addSpOffset_eq, setSp_eq_with_regs,
      setFlags_eq_with_regs, retire_with_regs]
    rfl
  case hl =>
    rw [show exec (.ldHL_SPE8 e) s = execLdHL_SPE8 e s from rfl, execLdHL_SPE8, addSpOffset_eq, setHl_eq_with_regs,
      setFlags_eq_with_regs, retire_with_regs]
    rfl

/-! ### RES and SET -/

/-- Bit `j` of the mask of bit `b`. -/
theorem getLsbD_mask (b : Fin 8) {j : Nat} (hj : j < 8) : (1#8 <<< b.val).getLsbD j = decide (j = b.val) := by
  rw [BitVec.getLsbD_shiftLeft, BitVec.getLsbD_one]
  by_cases h : j < b.val
  · simp [h, show j ≠ b.val by omega]
  · simp [hj, h, show j - b.val = 0 ↔ j = b.val by omega]

theorem clearBit_eq_withBit (b : Fin 8) : clearBit b v = withBit b false v := by
  apply BitVec.eq_of_getLsbD_eq
  intro j hj
  rw [withBit, getLsbD_byteOf hj, clearBit, BitVec.getLsbD_and, BitVec.getLsbD_not, getLsbD_mask b hj]
  by_cases h : j = b.val <;> simp [h, hj]

theorem setBit_eq_withBit (b : Fin 8) : setBit b v = withBit b true v := by
  apply BitVec.eq_of_getLsbD_eq
  intro j hj
  rw [withBit, getLsbD_byteOf hj, setBit, BitVec.getLsbD_or, getLsbD_mask b hj]
  by_cases h : j = b.val <;> simp [h]

theorem resBit_register {x : R8} (h : x ≠ .hlInd) (b : Fin 8) :
    resBit b x s = .next (onward 2 8 (withReg x (withBit b false (regOf x s.regs)) s.regs) s) := by
  rw [resBit, clearBit_eq_withBit, r8Val_register h, r8After_register h, r8Write_register h, isIndirect_eq_false h, retire_with_regs]
  rfl

theorem setBitR8_register {x : R8} (h : x ≠ .hlInd) (b : Fin 8) :
    setBitR8 b x s = .next (onward 2 8 (withReg x (withBit b true (regOf x s.regs)) s.regs) s) := by
  rw [setBitR8, setBit_eq_withBit, r8Val_register h, r8After_register h, r8Write_register h, isIndirect_eq_false h,
    retire_with_regs]
  rfl

theorem resBit_hlInd (b : Fin 8) :
    resBit b .hlInd s = .next (onward 2 16 s.regs (modifyHl (withBit b false (atHl s)) s)) := by
  rw [resBit, clearBit_eq_withBit, r8Write_hlInd_r8After, retire_eq_onward (modifyHl_regs ..)]
  rfl

theorem setBitR8_hlInd (b : Fin 8) :
    setBitR8 b .hlInd s = .next (onward 2 16 s.regs (modifyHl (withBit b true (atHl s)) s)) := by
  rw [setBitR8, setBit_eq_withBit, r8Write_hlInd_r8After, retire_eq_onward (modifyHl_regs ..)]
  rfl

/-- Settles O23: masking with the bit's mask makes that bit alone 0 or 1, and the result goes where the operand came from. -/
theorem bitResetAndSet : Obligations.BitResetAndSet := by
  intro b s
  refine ⟨fun x h => ⟨?res, ?set⟩, ?resMemory, ?setMemory⟩
  case res => rw [exec_resRow, resBit_register s h]
  case set => rw [exec_setRow, setBitR8_register s h]
  case resMemory => rw [exec_resRow, resBit_hlInd]
  case setMemory => rw [exec_setRow, setBitR8_hlInd]

end Sys2Proof.Proofs
end

section
/-! PROOFS. Jumps, calls, returns and restarts (R600 to R611), and the control and system instructions (R650 to R655): the state each
leaves. -/

namespace Sys2Proof.Proofs

open Sys2Proof.Machine Sys2Proof.Claims Sys2Proof.Laws

variable (s : State)

/-! ### Conditions and their cost -/

theorem condHolds_eq_holds (cc : Cond) (f : Flags) : condHolds cc f = holds cc f := by cases cc <;> rfl

theorem condCost_eq_charge (taken : Bool) (t n : Nat) : condCost s taken t n = charge s.cfg taken t n := by
  unfold condCost charge
  cases s.cfg.condTicks <;> cases taken <;> rfl

theorem jumpIf_eq (cc : Cond) (aa : Word) :
    jumpIf cc aa s
      = .next (if holds cc s.regs.flags then landing aa (charge s.cfg true 16 12) s.regs s
          else onward 3 (charge s.cfg false 16 12) s.regs s) := by
  simp only [jumpIf, condHolds_eq_holds, condCost_eq_charge]
  cases holds cc s.regs.flags <;> rfl

theorem jumpRelativeIf_eq (cc : Cond) (e : Byte) :
    jumpRelativeIf cc e s
      = .next (if holds cc s.regs.flags then landing (s.regs.pc + 2 + e.signExtend 16) (charge s.cfg true 12 8) s.regs s
          else onward 2 (charge s.cfg false 12 8) s.regs s) := by
  simp only [jumpRelativeIf, condHolds_eq_holds, condCost_eq_charge]
  cases holds cc s.regs.flags <;> rfl

/-- Settles O24: a jump writes PC and nothing else, and a conditional one is decided and charged by its condition. -/
theorem jumps : Obligations.Jumps := by
  intro s
  refine ⟨fun _ => rfl, rfl, fun _ => rfl, fun cc aa => ?_, fun cc e => ?_⟩
  · rw [exec_jpRow, jumpIf_eq]
  · rw [exec_jrRow, jumpRelativeIf_eq]

/-! ### Calls and restarts -/

/-- Landing after a push: SP is two lower, and the two bytes are stored. -/
theorem jumpTo_push16 (target w : Word) (ticks : Nat) :
    jumpTo target ticks (push16 w s) = landing target ticks { s.regs with sp := s.regs.sp - 2 } (pushed w s) := by
  rw [push16_eq_pushed]
  rfl

theorem callIf_eq (cc : Cond) (aa : Word) :
    callIf cc aa s
      = .next (if holds cc s.regs.flags
          then landing aa (charge s.cfg true 24 12) { s.regs with sp := s.regs.sp - 2 } (pushed (s.regs.pc + 3) s)
          else onward 3 (charge s.cfg false 24 12) s.regs s) := by
  simp only [callIf, condHolds_eq_holds, condCost_eq_charge, jumpTo_push16]
  cases holds cc s.regs.flags <;> rfl

/-- Settles O25: a call or restart pushes the address after it and lands at its target; a call not taken only goes on. -/
theorem callsAndRestarts : Obligations.CallsAndRestarts := by
  intro s
  refine ⟨fun aa => ?call, fun cc aa => ?callIf, fun y => ?rst⟩
  case call => exact congrArg Host.Outcome.next (jumpTo_push16 s aa _ 24)
  case callIf => rw [exec_callRow, callIf_eq]
  case rst =>
    rw [exec_rstRow, restart, jumpTo_push16]
    rfl

/-! ### Returns -/

/-- Landing after a pop: SP is two higher, and the two bytes are read. -/
theorem jumpTo_popAfter (target : Word) (ticks : Nat) :
    jumpTo target ticks (popAfter s) = landing target ticks { s.regs with sp := s.regs.sp + 2 } (poppedState s) := by
  rw [popAfter_eq_poppedState]
  rfl

theorem returnIf_eq (cc : Cond) :
    returnIf cc s
      = .next (if holds cc s.regs.flags
          then landing (poppedWord s) (charge s.cfg true 20 8) { s.regs with sp := s.regs.sp + 2 } (poppedState s)
          else onward 1 (charge s.cfg false 20 8) s.regs s) := by
  simp only [returnIf, condHolds_eq_holds, condCost_eq_charge, jumpTo_popAfter]
  cases holds cc s.regs.flags <;> rfl

theorem poppedState_irq : (poppedState s).irq = s.irq := by rw [poppedState, afterRead_irq, afterRead_irq]

theorem exec_reti :
    exec .reti s
      = .next
          { landing (poppedWord s) 16 { s.regs with sp := s.regs.sp + 2 } (poppedState s) with
            irq := { s.irq with ime := true, imeDelayed := none, imeRequest := none } } := by
  rw [show exec .reti s = execReti s from rfl, execReti, returnFromInterrupt, jumpTo_popAfter, ← poppedState_irq s]
  rfl

/-- Settles O26: a return lands at the word it pops; RETI writes the interrupt pipeline in the state after that. -/
theorem returns : Obligations.Returns := by
  intro s
  refine ⟨?ret, fun cc => ?retIf, exec_reti s⟩
  case ret => exact congrArg Host.Outcome.next (jumpTo_popAfter s (popVal s) 16)
  case retIf => rw [exec_retRow, returnIf_eq]

/-! ### Control and system instructions -/

theorem exec_stop :
    exec .stop s
      = .next { onward (match s.cfg.stopLength with | .one => 1 | .two => 2) 4 s.regs s with halted := true } := by
  rw [show exec .stop s = execStop s from rfl, execStop, StopLength.bytes.eq_def]
  cases s.cfg.stopLength <;> rfl

/-- Settles O27: each of the three goes on in 4 ticks, STOP by its configured length, and HALT and STOP set the halt. -/
theorem nopHaltAndStop : Obligations.NopHaltAndStop := fun s => ⟨rfl, rfl, exec_stop s⟩

/-- Settles O28: each goes on in 4 ticks with its request in the pipeline. -/
theorem interruptEnableRequests : Obligations.InterruptEnableRequests := fun _ => ⟨rfl, rfl⟩

theorem undefinedOp_nop (op : Byte) (h : s.cfg.invalidOpcodePolicy = .nop) :
    undefinedOp op s = .next (onward 1 s.cfg.undefTicks s.regs s) := by
  simp only [undefinedOp, h]
  rfl

theorem undefinedOp_fault (op : Byte) (h : s.cfg.invalidOpcodePolicy = .fault) : undefinedOp op s = .fault (.invalidOpcode op) := by
  simp only [undefinedOp, h]

/-- The eleven undefined opcodes with their instructions (R310). -/
def undefinedPairs : List (Byte × Instr) :=
  [(0xD3, .undefinedD3), (0xDB, .undefinedDB), (0xDD, .undefinedDD), (0xE3, .undefinedE3), (0xE4, .undefinedE4),
    (0xEB, .undefinedEB), (0xEC, .undefinedEC), (0xED, .undefinedED), (0xF4, .undefinedF4), (0xFC, .undefinedFC),
    (0xFD, .undefinedFD)]

/-- Each undefined opcode has a row of its own, which runs the shared form with that opcode. -/
theorem undefined_row_and_exec :
    ∀ u ∈ undefinedPairs, baseRow u.1 = .op u.2 ∧ ∀ s : State, exec u.2 s = undefinedOp u.1 s := by
  simp only [undefinedPairs, List.forall_mem_cons, List.not_mem_nil, false_implies, implies_true, and_true]
  exact ⟨⟨rfl, fun _ => rfl⟩, ⟨rfl, fun _ => rfl⟩, ⟨rfl, fun _ => rfl⟩, ⟨rfl, fun _ => rfl⟩, ⟨rfl, fun _ => rfl⟩,
    ⟨rfl, fun _ => rfl⟩, ⟨rfl, fun _ => rfl⟩, ⟨rfl, fun _ => rfl⟩, ⟨rfl, fun _ => rfl⟩, ⟨rfl, fun _ => rfl⟩, ⟨rfl, fun _ => rfl⟩⟩

/-- Settles O29: each of the eleven is its own row of the base map and runs the one form that the policy decides. -/
theorem undefinedOpcodes : Obligations.UndefinedOpcodes := by
  intro s u hu
  obtain ⟨hrow, hexec⟩ := undefined_row_and_exec u hu
  refine ⟨decode_of_baseRow_op hrow, fun h => ?nop, fun h => ?fault⟩
  case nop => rw [hexec, undefinedOp_nop s u.1 h]
  case fault => rw [hexec, undefinedOp_fault s u.1 h]

end Sys2Proof.Proofs
end

section
/-! PROOFS. Decimal adjust (R452, R466, R467, R471): the subtract primitive, the table row by row, its agreement with the algorithm of the
hardware, and the arithmetic of packed-BCD bytes. -/

namespace Sys2Proof.Proofs

open Sys2Proof.Machine Sys2Proof.Claims Sys2Proof.Laws

/-! ### The subtract primitive -/

/-- The difference is exact, narrowed to a byte (R16, R452). -/
theorem sub8_value (a b : Byte) (cin : Bool) :
    (sub8 a b cin).1.toNat = (a.toNat + 256 - b.toNat - cin.toNat) % 256 := by
  have hb := b.isLt
  have hc : cin.toNat ≤ 1 := Bool.toNat_le cin
  simp only [sub8, BitVec.toNat_ofInt]
  omega

theorem sub8_flags (a b : Byte) (cin : Bool) :
    (sub8 a b cin).2
      = ⟨(sub8 a b cin).1 == 0, true, decide (a.toNat % 16 < b.toNat % 16 + cin.toNat), decide (a.toNat < b.toNat + cin.toNat)⟩ := rfl

/-- Settles O10: the difference narrowed to a byte is brought back by an addition modulo 256. -/
theorem subtractPrimitive : Obligations.SubtractPrimitive := by
  intro a b cin
  have ha := a.isLt
  have hb := b.isLt
  have hc : cin.toNat ≤ 1 := Bool.toNat_le cin
  refine ⟨?value, sub8_flags a b cin, ?inverse⟩
  case value =>
    rw [sub8_value]
    omega
  case inverse =>
    apply BitVec.eq_of_toNat_eq
    rw [sub8_value, add8_value, Bool.toNat_false]
    omega

/-! ### The rows of the table -/

/-- A row covers A and F where its three flags are theirs and both nibbles lie in its ranges. -/
theorem covers_iff (r : DaaRow) (a : Byte) (f : Flags) :
    r.covers a f = true
      ↔ r.n = f.n ∧ r.cy = f.c ∧ r.hf = f.h ∧ r.upperLo ≤ a.toNat / 16 ∧ a.toNat / 16 ≤ r.upperHi
        ∧ r.lowerLo ≤ a.toNat % 16 ∧ a.toNat % 16 ≤ r.lowerHi := by
  simp only [DaaRow.covers, Bool.and_eq_true, beq_iff_eq, decide_eq_true_eq, and_assoc]

/-- The model's row for a row of the rule covers what that row matches. -/
theorem toDaaRow_covers_iff (r : AdjustRow) (a : Byte) (f : Flags) : r.toDaaRow.covers a f = true ↔ r.Matches a f :=
  covers_iff r.toDaaRow a f

theorem daaTable_eq_map : daaTable = adjustTable.map AdjustRow.toDaaRow := rfl

/-- Whether two rows differ in a flag, or have ranges of a nibble that do not meet. -/
def rowsApart (r q : DaaRow) : Bool :=
  r.n != q.n || r.cy != q.cy || r.hf != q.hf || decide (r.upperHi < q.upperLo) || decide (q.upperHi < r.upperLo)
    || decide (r.lowerHi < q.lowerLo) || decide (q.lowerHi < r.lowerLo)

theorem not_covers_of_rowsApart {r q : DaaRow} (h : rowsApart r q = true) {a : Byte} {f : Flags} (hr : r.covers a f = true) :
    ¬ q.covers a f = true := by
  rw [covers_iff] at hr ⊢
  obtain ⟨rn, rc, rh, ru1, ru2, rl1, rl2⟩ := hr
  rintro ⟨qn, qc, qh, qu1, qu2, ql1, ql2⟩
  simp only [rowsApart, rn, rc, rh, qn, qc, qh, bne_self_eq_false, Bool.false_or, Bool.or_eq_true, decide_eq_true_eq] at h
  omega

theorem daaTable_pairwise_apart : daaTable.Pairwise (fun r q => rowsApart r q = true) := by decide

/-- At most one row of the table covers any A and F. -/
theorem covering_index_unique {i j : Nat} {r q : DaaRow} {a : Byte} {f : Flags} (hi : daaTable[i]? = some r)
    (hj : daaTable[j]? = some q) (hr : r.covers a f = true) (hq : q.covers a f = true) : i = j := by
  obtain ⟨hil, rfl⟩ := List.getElem?_eq_some_iff.mp hi
  obtain ⟨hjl, rfl⟩ := List.getElem?_eq_some_iff.mp hj
  have apart := List.pairwise_iff_getElem.mp daaTable_pairwise_apart
  obtain h | h | h := Nat.lt_trichotomy i j
  · exact absurd hq (not_covers_of_rowsApart (apart i j hil hjl h) hr)
  · exact h
  · exact absurd hr (not_covers_of_rowsApart (apart j i hjl hil h) hq)

/-- The look-up finds the row that covers A and F. -/
theorem daaFind_of_covers {row : DaaRow} (hrow : row ∈ daaTable) {a : Byte} {f : Flags} (h : row.covers a f = true) :
    daaFind a f = some row := by
  cases hf : daaFind a f with
  | none => exact absurd h (List.find?_eq_none.mp hf row hrow)
  | some r =>
    obtain ⟨i, hi⟩ := List.mem_iff_getElem?.mp (List.mem_of_find?_eq_some hf)
    obtain ⟨j, hj⟩ := List.mem_iff_getElem?.mp hrow
    obtain rfl := covering_index_unique hi hj (List.find?_some (p := fun q : DaaRow => q.covers a f) hf) h
    rw [← hi, ← hj]

theorem daaFind_none {a : Byte} {f : Flags} (h : ∀ row ∈ daaTable, row.covers a f = false) : daaFind a f = none :=
  List.find?_eq_none.mpr fun row hrow => by simp [h row hrow]

/-! ### The algorithm of the hardware -/

/-- An exact sum of a byte and a number, narrowed. -/
theorem ofInt_toNat_add (v : Byte) (k : Int) : BitVec.ofInt 8 ((v.toNat : Int) + k) = v + BitVec.ofInt 8 k := by
  rw [BitVec.ofInt_add, BitVec.ofInt_natCast, BitVec.ofNat_toNat, BitVec.setWidth_eq]

/-- The correction of the hardware from its two parts. -/
def correction (carry low : Bool) : Byte := (if carry then 0x60 else 0) + (if low then 0x06 else 0)

/-- Two corrections added to an exact number are the one correction added to the byte. -/
theorem ofInt_add_correction (v : Byte) (carry low : Bool) :
    BitVec.ofInt 8
      (if low then (if carry then (v.toNat : Int) + 0x60 else v.toNat) + 0x06
        else if carry then (v.toNat : Int) + 0x60 else v.toNat)
      = v + correction carry low := by
  cases carry <;> cases low <;> simp [correction, Int.add_assoc, ofInt_toNat_add]

/-- Two corrections taken off an exact number are the one correction taken off the byte. -/
theorem ofInt_sub_correction (v : Byte) (carry low : Bool) :
    BitVec.ofInt 8
      (if low then (if carry then (v.toNat : Int) - 0x60 else v.toNat) - 0x06
        else if carry then (v.toNat : Int) - 0x60 else v.toNat)
      = v - correction carry low := by
  cases carry <;> cases low <;> simp [correction, Int.sub_eq_add_neg, Int.add_assoc, ofInt_toNat_add, BitVec.sub_eq_add_neg]

/-- Whether the hardware corrects the low digit (R467). -/
def hardwareLow (g : Regs) : Bool := g.flags.h || (!g.flags.n && decide (9 < g.a.toNat % 16))

theorem hardwareA_eq (g : Regs) :
    hardwareA g
      = if g.flags.n then g.a - correction (hardwareCarry g) (hardwareLow g) else g.a + correction (hardwareCarry g) (hardwareLow g) := rfl

/-- Adding 0x60 leaves the low digit, so the model's second test is that of A. -/
theorem decide_low_digit (v : Byte) (carry : Bool) :
    decide ((if carry then (v.toNat : Int) + 0x60 else v.toNat) % 16 > 0x9) = decide (9 < v.toNat % 16) := by
  cases carry <;> simp only [Bool.false_eq_true, if_false, if_true] <;> apply decide_eq_decide.mpr <;> omega

/-- The model's algorithm, with its two corrections made on an exact number, is the one correction of the byte. -/
theorem daaHardware_eq (g : Regs) :
    daaHardware g.a g.flags = (hardwareA g, ⟨hardwareA g == 0, g.flags.n, false, hardwareCarry g⟩) := by
  have hcarry : (g.flags.c || (!g.flags.n && decide (g.a.toNat > 0x99))) = hardwareCarry g := rfl
  simp only [daaHardware, hcarry, daaFlags]
  cases hn : g.flags.n
  case false =>
    have hlow : (g.flags.h || decide (9 < g.a.toNat % 16)) = hardwareLow g := by simp [hardwareLow, hn]
    simp only [Bool.false_eq_true, if_false, decide_low_digit, hlow, ofInt_add_correction, hardwareA_eq, hn]
  case true =>
    have hc : g.flags.c = hardwareCarry g := by simp [hardwareCarry, hn]
    have hlow : g.flags.h = hardwareLow g := by simp [hardwareLow, hn]
    simp only [if_true, hc, hlow, ofInt_sub_correction, hardwareA_eq, hn]

/-! ### Rows and hardware -/

/-- Whether a row corrects the low digit, from its flags and the least low digit it covers. -/
def rowLow (r : AdjustRow) : Bool := r.hf || (!r.n && decide (9 < r.lower.1))

/-- Whether a row corrects the high digit, from its flags and the least byte of its ranges. -/
def rowCarry (r : AdjustRow) : Bool := r.cy || (!r.n && decide (0x99 < 16 * r.upper.1 + r.lower.1))

/-- The last two columns of the table follow from the first ones (R466). -/
theorem adjustTable_columns :
    ∀ r ∈ adjustTable, r.cyAfter = rowCarry r
      ∧ r.add = if r.n then 0 - correction (rowCarry r) (rowLow r) else correction (rowCarry r) (rowLow r) := by decide

/-- No row's ranges cross the bounds 9 and 0x99, where no flag decides already. -/
theorem adjustTable_bounds :
    ∀ r ∈ adjustTable, (r.hf = true ∨ r.n = true ∨ 9 < r.lower.1 ∨ r.lower.2 ≤ 9)
      ∧ (r.cy = true ∨ r.n = true ∨ 0x99 < 16 * r.upper.1 + r.lower.1 ∨ 16 * r.upper.2 + r.lower.2 ≤ 0x99) := by decide

section Row
variable {r : AdjustRow} {g : Regs} (hr : r ∈ adjustTable) (h : r.Matches g.a g.flags)
include hr h

theorem hardwareLow_of_matches : hardwareLow g = rowLow r := by
  obtain ⟨hlow, -⟩ := adjustTable_bounds r hr
  obtain ⟨hn, -, hh, -, -, hl1, hl2⟩ := h
  rw [hardwareLow, rowLow, hn, hh]
  rw [hn, hh] at hlow
  obtain hlow | hlow | hlow := hlow
  · rw [hlow, Bool.true_or, Bool.true_or]
  · rw [hlow, Bool.not_true, Bool.false_and, Bool.false_and]
  · rw [decide_eq_decide.mpr (show 9 < g.a.toNat % 16 ↔ 9 < r.lower.1 by omega)]

theorem hardwareCarry_of_matches : hardwareCarry g = rowCarry r := by
  obtain ⟨-, hcarry⟩ := adjustTable_bounds r hr
  obtain ⟨hn, hc, -, hu1, hu2, hl1, hl2⟩ := h
  rw [hardwareCarry, rowCarry, hn, hc]
  rw [hn, hc] at hcarry
  obtain hcarry | hcarry | hcarry := hcarry
  · rw [hcarry, Bool.true_or, Bool.true_or]
  · rw [hcarry, Bool.not_true, Bool.false_and, Bool.false_and]
  · rw [decide_eq_decide.mpr (show 0x99 < g.a.toNat ↔ 0x99 < 16 * r.upper.1 + r.lower.1 by omega)]

/-- Where a row matches, adjusting by it is adjusting by the algorithm of the hardware. -/
theorem adjustByRow_eq_adjustByHardware : adjustByRow r g = adjustByHardware g := by
  obtain ⟨hcy, hadd⟩ := adjustTable_columns r hr
  have ha : g.a + r.add = hardwareA g := by
    rw [hadd, hardwareA_eq, hardwareLow_of_matches hr h, hardwareCarry_of_matches hr h, h.1]
    cases g.flags.n
    · rfl
    · simp [BitVec.sub_eq_add_neg]
  rw [adjustByRow, adjustByHardware, ha, hcy, hardwareCarry_of_matches hr h]

end Row

/-- The flags and A of a row are those of the rule's row. -/
theorem daaByRow_toDaaRow (r : AdjustRow) (g : Regs) :
    daaByRow r.toDaaRow g.a g.flags = ((adjustByRow r g).a, (adjustByRow r g).flags) := rfl

theorem daaHardware_eq_adjust (g : Regs) :
    daaHardware g.a g.flags = ((adjustByHardware g).a, (adjustByHardware g).flags) := daaHardware_eq g

/-- Settles O14: two rows never cover the same A and F, and within the ranges of one the two tests of the hardware have one answer. -/
theorem decimalAdjustTable : Obligations.DecimalAdjustTable := by
  refine ⟨rfl, daaTable_eq_map, fun r _ a f => toDaaRow_covers_iff r a f,
    fun i j ri rj a f hi hj hri hrj => covering_index_unique hi hj hri hrj, fun row hrow a f h => ⟨daaFind_of_covers hrow h, ?_⟩,
    fun a f h => daaFind_none h⟩
  rw [daaTable_eq_map] at hrow
  obtain ⟨r, hr, rfl⟩ := List.mem_map.mp hrow
  have hmatch := (toDaaRow_covers_iff r a f).mp h
  let g : Regs := { State.reset.regs with a := a, flags := f }
  have hrows : adjustByRow r g = adjustByHardware g := adjustByRow_eq_adjustByHardware hr hmatch
  exact ((daaByRow_toDaaRow r g).trans (by rw [hrows])).trans (daaHardware_eq_adjust g).symm

/-! ### DAA -/

theorem daaFinish_eq_onward (x : Byte × Flags) (s : State) :
    daaFinish x s = .next (onward 1 4 { s.regs with a := x.1, flags := x.2 } s) := by
  rw [daaFinish, setA_eq_with_regs, setFlags_eq_with_regs, retire_with_regs]
  rfl

theorem exec_daa_of_matches {r : AdjustRow} {s : State} (hr : r ∈ adjustTable) (h : r.Matches s.regs.a s.regs.flags) :
    exec .daa s = .next (onward 1 4 (adjustByRow r s.regs) s) := by
  have hmem : r.toDaaRow ∈ daaTable := daaTable_eq_map ▸ List.mem_map_of_mem hr
  rw [show exec .daa s = execDaa s from rfl, execDaa, daaFind_of_covers hmem ((toDaaRow_covers_iff r _ _).mpr h)]
  exact daaFinish_eq_onward _ s

/-- Where a row matches, DAA does what the hardware's algorithm does, under either policy. -/
theorem exec_daa_hardware {r : AdjustRow} {s : State} (hr : r ∈ adjustTable) (h : r.Matches s.regs.a s.regs.flags) :
    exec .daa s = .next (onward 1 4 (adjustByHardware s.regs) s) := by
  rw [exec_daa_of_matches hr h, adjustByRow_eq_adjustByHardware hr h]

/-- Where no row of the rule matches, the look-up of the model finds none. -/
theorem daaFind_none_of_no_match {a : Byte} {f : Flags} (h : ∀ r ∈ adjustTable, ¬ r.Matches a f) : daaFind a f = none := by
  apply daaFind_none
  rw [daaTable_eq_map]
  intro row hrow
  obtain ⟨r, hr, rfl⟩ := List.mem_map.mp hrow
  exact Bool.eq_false_iff.mpr fun hc => h r hr ((toDaaRow_covers_iff r a f).mp hc)

/-- Settles O13: the look-up finds the row that matches, or none, and then the policy decides. -/
theorem decimalAdjust : Obligations.DecimalAdjust := by
  intro s
  refine ⟨fun r hr h => exec_daa_of_matches hr h, fun hmiss => ?_⟩
  have hfind := daaFind_none_of_no_match hmiss
  rw [show exec .daa s = execDaa s from rfl, execDaa, hfind]
  refine ⟨fun hp => ?fault, fun hp => ?hardware⟩
  case fault => simp only [hp]
  case hardware =>
    simp only [hp]
    rw [daaFinish_eq_onward, daaHardware_eq_adjust]
    rfl

end Sys2Proof.Proofs
end

section
/-! PROOFS. The arithmetic of packed-BCD bytes (R471): DAA right after an addition or a subtraction of two of them. -/

namespace Sys2Proof.Proofs

open Sys2Proof.Machine Sys2Proof.Claims Sys2Proof.Laws

theorem toNat_correction (carry low : Bool) :
    (correction carry low).toNat = 0x60 * carry.toNat + 0x06 * low.toNat := by
  cases carry <;> cases low <;> rfl

/-- A test as the number 1 or 0. -/
theorem toNat_decide_cases (p : Prop) [Decidable p] : (decide p).toNat = 1 ∧ p ∨ (decide p).toNat = 0 ∧ ¬ p := by
  by_cases h : p
  · exact .inl ⟨by rw [decide_eq_true h]; rfl, h⟩
  · exact .inr ⟨by rw [decide_eq_false h]; rfl, h⟩

section Digits
variable {a b c r H L : Nat} (ha1 : a / 16 ≤ 9) (ha0 : a % 16 ≤ 9) (hb1 : b / 16 ≤ 9) (hb0 : b % 16 ≤ 9) (hc : c ≤ 1)
include ha1 ha0 hb1 hb0 hc

/-- A sum of two-digit numbers, corrected by 0x60 where it reaches 100 and by 0x06 where the low digits reach 10, shows its digits. -/
theorem digits_of_sum (hr : r = ((a + b + c) % 256 + 0x60 * H + 0x06 * L) % 256)
    (high : H = 1 ∧ 99 < 10 * (a / 16) + a % 16 + (10 * (b / 16) + b % 16) + c
      ∨ H = 0 ∧ ¬ 99 < 10 * (a / 16) + a % 16 + (10 * (b / 16) + b % 16) + c)
    (low : L = 1 ∧ 9 < a % 16 + b % 16 + c ∨ L = 0 ∧ ¬ 9 < a % 16 + b % 16 + c) :
    (r / 16 ≤ 9 ∧ r % 16 ≤ 9)
      ∧ 10 * (r / 16) + r % 16 = (10 * (a / 16) + a % 16 + (10 * (b / 16) + b % 16) + c) % 100 := by
  have hexact : r + 256 * H = a + b + c + 0x60 * H + 0x06 * L := by omega
  omega

/-- A difference of two-digit numbers, corrected by 0x60 and 0x06 where a digit borrows, shows its digits. -/
theorem digits_of_diff (hr : r = ((a + 256 - b - c) % 256 + 256 - 0x60 * H - 0x06 * L) % 256)
    (high : H = 1 ∧ 10 * (a / 16) + a % 16 < 10 * (b / 16) + b % 16 + c
      ∨ H = 0 ∧ ¬ 10 * (a / 16) + a % 16 < 10 * (b / 16) + b % 16 + c)
    (low : L = 1 ∧ a % 16 < b % 16 + c ∨ L = 0 ∧ ¬ a % 16 < b % 16 + c) :
    (r / 16 ≤ 9 ∧ r % 16 ≤ 9)
      ∧ (10 * (r / 16) + r % 16 + (10 * (b / 16) + b % 16 + c)) % 100 = 10 * (a / 16) + a % 16 := by
  have hexact : r + b + c + 0x60 * H + 0x06 * L = a + 256 * H := by omega
  omega

end Digits

/-- A and F hold the sum of two bytes and a carry (R451). -/
structure HoldsSum (g : Regs) (a b : Byte) (cin : Bool) : Prop where
  value : g.a.toNat = (a.toNat + b.toNat + cin.toNat) % 256
  n : g.flags.n = false
  h : g.flags.h = decide (15 < a.toNat % 16 + b.toNat % 16 + cin.toNat)
  c : g.flags.c = decide (255 < a.toNat + b.toNat + cin.toNat)

/-- A and F hold the difference of two bytes and a borrow (R452). -/
structure HoldsDiff (g : Regs) (a b : Byte) (cin : Bool) : Prop where
  value : g.a.toNat = (a.toNat + 256 - b.toNat - cin.toNat) % 256
  n : g.flags.n = true
  h : g.flags.h = decide (a.toNat % 16 < b.toNat % 16 + cin.toNat)
  c : g.flags.c = decide (a.toNat < b.toNat + cin.toNat)

section Packed
variable {g : Regs} {a b : Byte} {cin : Bool} (ha : PackedBcd a) (hb : PackedBcd b)
include ha hb

/-- The table has a row for every sum of packed-BCD bytes. -/
theorem exists_row_of_sum (hg : HoldsSum g a b cin) : ∃ r ∈ adjustTable, r.Matches g.a g.flags := by
  have hcin := Bool.toNat_le cin
  obtain ⟨ha1, ha0⟩ := ha
  obtain ⟨hb1, hb0⟩ := hb
  obtain ⟨hv, hn, hh, hc⟩ := hg
  by_cases half : 15 < a.toNat % 16 + b.toNat % 16 + cin.toNat <;> by_cases full : 255 < a.toNat + b.toNat + cin.toNat <;>
    simp only [half, full, decide_true, decide_false] at hh hc <;>
    simp [adjustTable, AdjustRow.Matches, hn, hh, hc] <;> omega

/-- The hardware's algorithm turns a sum into the decimal sum. -/
theorem hardware_of_sum (hg : HoldsSum g a b cin) :
    PackedBcd (hardwareA g) ∧ decimal (hardwareA g) = (decimal a + decimal b + cin.toNat) % 100
      ∧ hardwareCarry g = decide (99 < decimal a + decimal b + cin.toNat) := by
  have hcin := Bool.toNat_le cin
  obtain ⟨ha1, ha0⟩ := ha
  obtain ⟨hb1, hb0⟩ := hb
  obtain ⟨hv, hn, hh, hc⟩ := hg
  have hcarry : hardwareCarry g = decide (99 < decimal a + decimal b + cin.toNat) := by
    rw [hardwareCarry, hn, hc, Bool.not_false, Bool.true_and, ← Bool.decide_or]
    apply decide_eq_decide.mpr
    unfold decimal
    omega
  have hlow : hardwareLow g = decide (9 < a.toNat % 16 + b.toNat % 16 + cin.toNat) := by
    rw [hardwareLow, hn, hh, Bool.not_false, Bool.true_and, ← Bool.decide_or]
    apply decide_eq_decide.mpr
    omega
  have hres : (hardwareA g).toNat = (g.a.toNat + 0x60 * (hardwareCarry g).toNat + 0x06 * (hardwareLow g).toNat) % 256 := by
    rw [hardwareA_eq, hn, if_neg (by simp), BitVec.toNat_add, toNat_correction, Nat.add_assoc]
  rw [hcarry, hlow] at hres
  obtain ⟨hpacked, hdecimal⟩ := digits_of_sum ha1 ha0 hb1 hb0 hcin (hv ▸ hres)
    (toNat_decide_cases (99 < decimal a + decimal b + cin.toNat)) (toNat_decide_cases _)
  exact ⟨hpacked, hdecimal, hcarry⟩

/-- The table has a row for every difference of packed-BCD bytes. -/
theorem exists_row_of_diff (hg : HoldsDiff g a b cin) : ∃ r ∈ adjustTable, r.Matches g.a g.flags := by
  have hcin := Bool.toNat_le cin
  obtain ⟨ha1, ha0⟩ := ha
  obtain ⟨hb1, hb0⟩ := hb
  obtain ⟨hv, hn, hh, hc⟩ := hg
  by_cases half : a.toNat % 16 < b.toNat % 16 + cin.toNat <;> by_cases full : a.toNat < b.toNat + cin.toNat <;>
    simp only [half, full, decide_true, decide_false] at hh hc <;>
    simp [adjustTable, AdjustRow.Matches, hn, hh, hc] <;> omega

/-- The hardware's algorithm turns a difference into the decimal difference. -/
theorem hardware_of_diff (hg : HoldsDiff g a b cin) :
    PackedBcd (hardwareA g) ∧ (decimal (hardwareA g) + (decimal b + cin.toNat)) % 100 = decimal a
      ∧ hardwareCarry g = decide (decimal a < decimal b + cin.toNat) := by
  have hcin := Bool.toNat_le cin
  obtain ⟨ha1, ha0⟩ := ha
  obtain ⟨hb1, hb0⟩ := hb
  obtain ⟨hv, hn, hh, hc⟩ := hg
  have hcarry : hardwareCarry g = decide (decimal a < decimal b + cin.toNat) := by
    rw [hardwareCarry, hn, hc, Bool.not_true, Bool.false_and, Bool.or_false]
    apply decide_eq_decide.mpr
    unfold decimal
    omega
  have hlow : hardwareLow g = decide (a.toNat % 16 < b.toNat % 16 + cin.toNat) := by
    rw [hardwareLow, hn, hh, Bool.not_true, Bool.false_and, Bool.or_false]
  have hres : (hardwareA g).toNat
      = (g.a.toNat + 256 - 0x60 * (hardwareCarry g).toNat - 0x06 * (hardwareLow g).toNat) % 256 := by
    rw [hardwareA_eq, hn, if_pos rfl, BitVec.toNat_sub, toNat_correction]
    have hC := Bool.toNat_le (hardwareCarry g)
    have hL := Bool.toNat_le (hardwareLow g)
    omega
  rw [hcarry, hlow] at hres
  obtain ⟨hpacked, hdecimal⟩ := digits_of_diff ha1 ha0 hb1 hb0 hcin (hv ▸ hres)
    (toNat_decide_cases (decimal a < decimal b + cin.toNat)) (toNat_decide_cases _)
  exact ⟨hpacked, hdecimal, hcarry⟩

end Packed

/-! ### An operation and then DAA -/

section Sequence
variable {s : State} {n : Byte} {op : AluOp} {cin : Bool} (ha : PackedBcd s.regs.a) (hn : PackedBcd n)
include ha hn

theorem addition_then_daa
    (hop : aluEffect op n s.regs = { s.regs with a := (add8 s.regs.a n cin).1, flags := (add8 s.regs.a n cin).2 }) :
    ∃ t u, exec (aluN8Row op n) s = .next t ∧ exec .daa t = .next u ∧ PackedBcd u.regs.a
      ∧ decimal u.regs.a = (decimal s.regs.a + decimal n + cin.toNat) % 100
      ∧ u.regs.flags.c = decide (99 < decimal s.regs.a + decimal n + cin.toNat) := by
  have hexec : exec (aluN8Row op n) s = .next (onward 2 8 _ s) := (exec_aluN8Row op n s).trans (aluImm_eq_onward n s op)
  rw [hop] at hexec
  have hsum : HoldsSum (onward 2 8 { s.regs with a := (add8 s.regs.a n cin).1, flags := (add8 s.regs.a n cin).2 } s).regs
      s.regs.a n cin := by
    have hf := add8_flags s.regs.a n cin
    exact ⟨add8_value .., congrArg Flags.n hf, congrArg Flags.h hf, congrArg Flags.c hf⟩
  obtain ⟨r, hr, hmatch⟩ := exists_row_of_sum ha hn hsum
  exact ⟨_, _, hexec, exec_daa_hardware hr hmatch, hardware_of_sum ha hn hsum⟩

theorem subtraction_then_daa
    (hop : aluEffect op n s.regs = { s.regs with a := (sub8 s.regs.a n cin).1, flags := (sub8 s.regs.a n cin).2 }) :
    ∃ t u, exec (aluN8Row op n) s = .next t ∧ exec .daa t = .next u ∧ PackedBcd u.regs.a
      ∧ (decimal u.regs.a + (decimal n + cin.toNat)) % 100 = decimal s.regs.a
      ∧ u.regs.flags.c = decide (decimal s.regs.a < decimal n + cin.toNat) := by
  have hexec : exec (aluN8Row op n) s = .next (onward 2 8 _ s) := (exec_aluN8Row op n s).trans (aluImm_eq_onward n s op)
  rw [hop] at hexec
  have hdiff : HoldsDiff (onward 2 8 { s.regs with a := (sub8 s.regs.a n cin).1, flags := (sub8 s.regs.a n cin).2 } s).regs
      s.regs.a n cin := ⟨sub8_value .., rfl, rfl, rfl⟩
  obtain ⟨r, hr, hmatch⟩ := exists_row_of_diff ha hn hdiff
  exact ⟨_, _, hexec, exec_daa_hardware hr hmatch, hardware_of_diff ha hn hdiff⟩

end Sequence

/-- Settles O15: the flags of a sum or difference of packed-BCD bytes always match a row of the table, so DAA runs under either policy, and
the correction of the row makes both digits decimal. -/
theorem decimalArithmetic : Obligations.DecimalArithmetic := by
  intro s n ha hn
  refine ⟨?addition, ?subtraction⟩
  case addition =>
    rintro op (rfl | rfl)
    · exact addition_then_daa (cin := false) ha hn rfl
    · exact addition_then_daa (cin := s.regs.flags.c) ha hn rfl
  case subtraction =>
    rintro op (rfl | rfl)
    · exact subtraction_then_daa (cin := false) ha hn rfl
    · exact subtraction_then_daa (cin := s.regs.flags.c) ha hn rfl

end Sys2Proof.Proofs
end

section
/-! PROOFS. The bus outside core RAM (R200 to R223): the I/O registers and IE, the boot overlay, the cartridge and the peripherals. -/

namespace Sys2Proof.Proofs

open Sys2Proof.Machine Sys2Proof.Claims Sys2Proof.Laws

variable {a : Word} (v : Byte) (s : State)

/-! ### The I/O page -/

theorem region_of_io (o : Bool) (h : 0xFF00 ≤ a.toNat ∧ a.toNat ≤ 0xFF7F) : region o a = .io := by
  rcases region_cases o a with ⟨e, g⟩ | ⟨e, g⟩ | ⟨e, g⟩ | ⟨e, g⟩ | ⟨e, g⟩ | ⟨e, g⟩ | ⟨e, g⟩ | ⟨e, g⟩ | ⟨e, g⟩ | ⟨e, g⟩
    <;> simp only [e, reduceCtorEq] <;> omega

theorem readVal_io (h : 0xFF00 ≤ a.toNat ∧ a.toNat ≤ 0xFF7F) : readVal a s = ioVal a s := by
  simp only [readVal, region_of_io s.bootOverlay h]

theorem memWrite_io (h : 0xFF00 ≤ a.toNat ∧ a.toNat ≤ 0xFF7F) : memWrite a v s = ioWrite a v s := by
  simp only [memWrite, region_of_io false h]

/-- The unmapped addresses of the I/O page as ranges (R212). -/
def Unmapped (a : Word) : Prop :=
  a = 0xFF03 ∨ (0xFF08 ≤ a.toNat ∧ a.toNat ≤ 0xFF0E) ∨ (0xFF4C ≤ a.toNat ∧ a.toNat ≤ 0xFF4F)
    ∨ (0xFF51 ≤ a.toNat ∧ a.toNat ≤ 0xFF7F)

theorem unmapped_range (h : Unmapped a) : 0xFF00 ≤ a.toNat ∧ a.toNat ≤ 0xFF7F := by
  obtain rfl | h := h
  · decide
  · omega

theorem peripheral_range (h : Peripheral a) : 0xFF00 ≤ a.toNat ∧ a.toNat ≤ 0xFF7F := by
  unfold Peripheral at h
  omega

theorem ioReg_of_unmapped (h : Unmapped a) : ioReg a = .unmapped := by
  have place := ioReg_place a
  cases hr : ioReg a <;> rw [hr] at place
  case ext =>
    obtain rfl | h := h
    · exact absurd place (by simp [IoPlace])
    · simp only [IoPlace] at place; omega
  all_goals
    obtain rfl : a = _ := place
    exact absurd h (by simp [Unmapped])

theorem ioReg_of_peripheral (h : Peripheral a) : ioReg a = .ext := by
  by_cases h0 : a.toNat ≤ 0xFF02
  · rw [ioReg, if_pos h0]
  · have hrange : 0xFF10 ≤ a.toNat ∧ a.toNat ≤ 0xFF3F := by
      unfold Peripheral at h
      omega
    have hne : ∀ k : Word, k.toNat ≤ 0xFF0F → a ≠ k := by
      rintro k hk rfl
      omega
    rw [ioReg, if_neg h0, if_neg (hne 0xFF04 (by decide)), if_neg (hne 0xFF05 (by decide)), if_neg (hne 0xFF06 (by decide)),
      if_neg (hne 0xFF07 (by decide)), if_neg (hne 0xFF0F (by decide)), if_pos hrange]

/-- An address of the I/O page whose register is external belongs to the peripherals. -/
theorem peripheral_of_ioReg (h : 0xFF00 ≤ a.toNat ∧ a.toNat ≤ 0xFF7F) (hr : ioReg a = .ext) : Peripheral a := by
  have place := ioReg_place a
  rw [hr] at place
  simp only [IoPlace] at place
  unfold Peripheral
  omega

/-! ### Reads and stores of the I/O registers -/

/-- The read value of TAC: its unused bits read as 1 (R770). -/
theorem tac_read (t : BitVec 3) : 0b11111#5 ++ t = 0xF8 ||| t.setWidth 8 := by revert t; decide

/-- The read value of IF: the unused bits come from `IF_UNUSED_READ` (R214). -/
theorem iflag_read (u : BitVec 3) (f : BitVec 5) : u ++ f = (u.setWidth 8 <<< 5) ||| f.setWidth 8 := by revert u f; decide

/-- The read value of STAT from its parts: bit 7 reads as 1 (R781). -/
theorem stat_read (en : BitVec 4) (hit : Bool) (m : BitVec 2) :
    0b1#1 ++ en ++ BitVec.ofBool hit ++ m
      = 0x80#8 ||| (en.setWidth 8 <<< 3) ||| (if hit then 0x04#8 else 0x00) ||| m.setWidth 8 := by revert en hit m; decide

theorem readVal_peripheral (h : Peripheral a) : readVal a s = extVal s a := by
  simp only [readVal_io s (peripheral_range h), ioVal, ioReg_of_peripheral h]

theorem afterRead_peripheral (h : Peripheral a) : afterRead a s = extAfter s a := by
  simp only [afterRead, region_of_io s.bootOverlay (peripheral_range h), ioReg_of_peripheral h, if_true]

theorem memWrite_peripheral (h : Peripheral a) : memWrite a v s = extWrite a v s := by
  simp only [memWrite_io v s (peripheral_range h), ioWrite, ioReg_of_peripheral h]

theorem extAfter_eq :
    extAfter s a
      = { s with
          ext := match s.cfg.extIo with
            | .unnamed => extLogged (.read a) s.ext
            | .named d => { s.ext with cells := deviceStores d.onRead a 0 s.ext.cells } } := by
  unfold extAfter
  cases s.cfg.extIo <;> rfl

theorem extWrite_eq :
    extWrite a v s
      = { s with
          ext := match s.cfg.extIo with
            | .unnamed => extLogged (.write a v) s.ext
            | .named d => { s.ext with cells := deviceStores d.onWrite a v s.ext.cells } } := by
  unfold extWrite
  cases s.cfg.extIo <;> rfl

/-- The last address is IE (R217). -/
theorem region_ie (o : Bool) : region o 0xFFFF = .ie := (region_of o 0xFFFF (by decide)).trans rfl

theorem memWrite_boot : memWrite 0xFF50 v s = { s with bootOverlay := s.bootOverlay && v == 0 } := by
  rw [memWrite_io v s (by decide), show ioWrite 0xFF50 v s = if v = 0 then s else { s with bootOverlay := false } from rfl]
  by_cases hv : v = 0
  · rw [if_pos hv, hv, beq_self_eq_true, Bool.and_true]
  · rw [if_neg hv, beq_eq_false_iff_ne.mpr hv, Bool.and_false]

/-- Settles O35: each address has its register in the I/O map, whose read value is that of the rule. -/
theorem ioReads : Obligations.IoReads := by
  intro s
  refine ⟨readVal_io s (by decide), readVal_io s (by decide), readVal_io s (by decide),
    (readVal_io s (by decide)).trans (tac_read _), (readVal_io s (by decide)).trans (iflag_read _ _), readVal_io s (by decide),
    ?stat, readVal_io s (by decide), readVal_io s (by decide), readVal_io s (by decide), readVal_io s (by decide),
    readVal_io s (by decide), readVal_io s (by decide), readVal_io s (by decide), readVal_io s (by decide),
    readVal_io s (by decide), readVal_io s (by decide), readVal_io s (by decide), ?ie, fun a h => ?unmapped,
    fun a h => readVal_peripheral s h⟩
  case stat =>
    rw [readVal_io s (by decide), show ioVal 0xFF41 s = statVal s.disp from rfl, statVal, stat_read]
    cases s.disp.mode <;> rfl
  case ie => simp only [readVal, region_ie]
  case unmapped => simp only [readVal_io s (unmapped_range h), ioVal, ioReg_of_unmapped h]

/-- A write of TAC clears the accumulator where the two selector bits change (R771). -/
theorem writeTac_eq (t : Timer) :
    writeTac v t
      = { t with
          tac := v.extractLsb' 0 3
          timaAcc := if v.extractLsb' 0 2 = t.tac.extractLsb' 0 2 then t.timaAcc else 0 } := by
  have hsel : (v.extractLsb' 0 3).extractLsb' 0 2 = v.extractLsb' 0 2 := by
    rw [BitVec.extractLsb'_extractLsb'_of_le (by decide)]
  simp only [writeTac, hsel]

/-- Settles O36: each address has its register in the I/O map, and the store changes what the register stands for. -/
theorem ioWrites : Obligations.IoWrites := by
  intro s v
  refine ⟨memWrite_io v s (by decide), memWrite_io v s (by decide), memWrite_io v s (by decide), ?tac,
    memWrite_io v s (by decide), memWrite_io v s (by decide), memWrite_io v s (by decide), memWrite_io v s (by decide),
    memWrite_io v s (by decide), memWrite_io v s (by decide), memWrite_io v s (by decide), memWrite_io v s (by decide),
    memWrite_io v s (by decide), memWrite_io v s (by decide), memWrite_io v s (by decide), memWrite_io v s (by decide),
    memWrite_boot v s, ?ie, fun a => ⟨fun h => ?unmapped, fun h => (memWrite_peripheral v s h).trans (extWrite_eq v s)⟩⟩
  case tac =>
    rw [memWrite_io v s (by decide), show ioWrite 0xFF07 v s = { s with timer := writeTac v s.timer } from rfl, writeTac_eq]
  case ie => simp only [memWrite, region_ie]
  case unmapped => simp only [memWrite_io v s (unmapped_range h), ioWrite, ioReg_of_unmapped h]

/-! ### The cartridge and the boot overlay -/

theorem cartVal_eq :
    cartVal s a
      = match s.cfg.cartridge with
        | .unnamed => Config.cartAnswer s.cart.events a
        | .flat _ => (s.cart.image.read a.toNat).getD (Config.cartAnswer s.cart.events a)
        | .named d => deviceAnswer d s.cart.cells a := by
  unfold cartVal cartKnown
  cases s.cfg.cartridge <;> rfl

/-- A read that the cartridge answers freely, or as a named device, is an event of it (R223). -/
theorem cartAfter_eq (h : (cartKnown s a).isSome = false) :
    cartAfter s a
      = { s with
          cart := match s.cfg.cartridge with
            | .unnamed | .flat _ => cartLogged (.read a) s.cart
            | .named d => { s.cart with cells := deviceStores d.onRead a 0 s.cart.cells } } := by
  unfold cartAfter
  cases hc : s.cfg.cartridge <;> simp only [h, Bool.false_eq_true, if_false] <;> rfl

theorem cartWrite_eq :
    cartWrite a v s
      = { s with
          cart := match s.cfg.cartridge with
            | .unnamed => cartLogged (.write a v) s.cart
            | .flat hasRam =>
              if hasRam = true ∧ 0xA000 ≤ a.toNat then { s.cart with image := s.cart.image.write a.toNat v } else s.cart
            | .named d => { s.cart with cells := deviceStores d.onWrite a v s.cart.cells } } := by
  unfold cartWrite
  cases s.cfg.cartridge with
  | unnamed => rfl
  | named d => rfl
  | flat hasRam =>
    simp only [Bool.and_eq_true, decide_eq_true_eq]
    split <;> rfl

/-- Above the boot program's addresses, or with no boot program shown, the windows of the cartridge are its own. -/
theorem readVal_cart (h : CartAddress a) (ho : s.bootOverlay = true → s.cfg.bootRom ≠ none → 0xFF < a.toNat) :
    readVal a s = cartVal s a := by
  unfold CartAddress at h
  rcases region_cases s.bootOverlay a with ⟨e, g⟩ | ⟨e, g⟩ | ⟨e, g⟩ | ⟨e, g⟩ | ⟨e, g⟩ | ⟨e, g⟩ | ⟨e, g⟩ | ⟨e, g⟩ | ⟨e, g⟩ | ⟨e, g⟩
    <;> simp only [readVal, e]
  case inl =>
    have hrom : s.cfg.bootRom = none := by
      by_contra hr
      have := ho g.1 hr
      omega
    simp only [hrom]
  all_goals omega

theorem memWrite_cart (h : CartAddress a) : memWrite a v s = cartWrite a v s := by
  unfold CartAddress at h
  rcases region_cases false a with ⟨e, g⟩ | ⟨e, g⟩ | ⟨e, g⟩ | ⟨e, g⟩ | ⟨e, g⟩ | ⟨e, g⟩ | ⟨e, g⟩ | ⟨e, g⟩ | ⟨e, g⟩ | ⟨e, g⟩
    <;> simp only [memWrite, e]
  case inl => exact absurd g.1 (by simp)
  all_goals omega

/-- Settles O60: the overlay answers below 0x0100 while it is up, and the provider answers and receives every other access to its windows. -/
theorem cartridgeAndBootOverlay : Obligations.CartridgeAndBootOverlay := by
  intro s a v
  refine ⟨fun rom h hover hrom => ?overlay, fun h ho => ?read, fun h => ?write, fun hflat h1 h2 => ?ram⟩
  case overlay =>
    have hr : region s.bootOverlay a = .boot := by
      rw [region, hover, Bool.true_and, if_pos (decide_eq_true (by omega))]
    constructor
    · simp only [readVal, hr, hrom, Nat.mod_eq_of_lt h]
    · simp only [afterRead, hr, hrom, Option.isSome_some, if_true]
  case read => exact (readVal_cart s h ho).trans (cartVal_eq s)
  case write => exact (memWrite_cart v s h).trans (cartWrite_eq v s)
  case ram =>
    have hw : CartAddress a := .inr ⟨h1, h2⟩
    rw [readVal_cart _ hw (fun _ _ => by omega), memWrite_cart v s hw, cartVal_eq, cartWrite_eq]
    simp [hflat, h1]

/-! ### Reads as events -/

/-- What the core does not own lies with the peripherals, or in a window of the cartridge at an address of no known byte. -/
theorem not_coreOwned_cases (h : coreOwned s a = false) :
    (Peripheral a ∧ afterRead a s = extAfter s a)
      ∨ (¬ Peripheral a ∧ CartAddress a ∧ (cartKnown s a).isSome = false ∧ afterRead a s = cartAfter s a) := by
  rcases region_cases s.bootOverlay a with ⟨e, g⟩ | ⟨e, g⟩ | ⟨e, g⟩ | ⟨e, g⟩ | ⟨e, g⟩ | ⟨e, g⟩ | ⟨e, g⟩ | ⟨e, g⟩ | ⟨e, g⟩ | ⟨e, g⟩
    <;> simp only [coreOwned, e] at h
  case inl =>
    obtain ⟨hrom, hknown⟩ := Bool.or_eq_false_iff.mp h
    refine .inr ⟨?_, .inl (by omega), hknown, ?_⟩
    · unfold Peripheral; omega
    · simp only [afterRead, e, hrom, Bool.false_eq_true, if_false]
  case inr.inl =>
    refine .inr ⟨?_, g.1, h, ?_⟩
    · unfold Peripheral; omega
    · simp only [afterRead, e]
  case inr.inr.inr.inr.inr.inr.inr.inl =>
    have hp := peripheral_of_ioReg g (by simpa using h)
    exact .inl ⟨hp, afterRead_peripheral s hp⟩
  all_goals exact Bool.noConfusion h

theorem afterRead_coreOwned (h : coreOwned s a = true) : afterRead a s = s := by
  have hcart : (cartKnown s a).isSome = true → cartAfter s a = s := by
    intro hk
    unfold cartAfter
    cases hc : s.cfg.cartridge with
    | named d => simp [cartKnown, hc] at hk
    | unnamed => simp [cartKnown, hc] at hk
    | flat r => simp only [hk, if_true]
  rcases region_cases s.bootOverlay a with ⟨e, g⟩ | ⟨e, g⟩ | ⟨e, g⟩ | ⟨e, g⟩ | ⟨e, g⟩ | ⟨e, g⟩ | ⟨e, g⟩ | ⟨e, g⟩ | ⟨e, g⟩ | ⟨e, g⟩
    <;> simp only [coreOwned, e] at h <;> simp only [afterRead, e]
  case inl =>
    split
    · rfl
    · exact hcart (by simp_all)
  case inr.inl => exact hcart h
  case inr.inr.inr.inr.inr.inr.inr.inl => rw [if_neg (by simpa using h)]

/-- Settles O32: only a byte of the cartridge that is not known, or of the peripherals, is read by an event of its collaborator. -/
theorem readsAreIdempotentOrEvents : Obligations.ReadsAreIdempotentOrEvents := by
  intro s a
  refine ⟨fun h => afterRead_coreOwned s h, fun h hp => ?peripheral, fun h hp => ?cart⟩
  case peripheral => exact (afterRead_peripheral s hp).trans (extAfter_eq s)
  case cart =>
    obtain ⟨hp', -⟩ | ⟨-, hcart, hknown, hread⟩ := not_coreOwned_cases s h
    · exact absurd hp' hp
    · exact ⟨hcart, hread.trans (cartAfter_eq s hknown)⟩

end Sys2Proof.Proofs
end

section
/-! PROOFS. What a store changes and what it leaves alone (R220, R221, R224, R241): the state that no address shows, the bytes it does not
reach, and the OAM DMA. -/

namespace Sys2Proof.Proofs

open Sys2Proof.Machine Sys2Proof.Claims Sys2Proof.Laws

variable {a b : Word} (v : Byte) (s : State)

/-! ### The state that no address shows -/

/-- What a store at `a` leaves of the display, the accumulators, IF and the overlay. The registers, the halt, the outputs, the parameters
and the IME pipeline have lemmas of their own. -/
structure StoreFrame (a : Word) (s t : State) : Prop where
  mode : t.disp.mode = s.disp.mode
  phaseTicks : t.disp.phaseTicks = s.disp.phaseTicks
  ly : t.disp.ly = s.disp.ly
  coincidence : t.disp.coincidence = s.disp.coincidence
  divAcc : t.timer.divAcc = s.timer.divAcc ∨ (a = 0xFF04 ∧ t.timer.divAcc = 0)
  timaAcc : (t.timer.timaAcc = s.timer.timaAcc ∧ t.timer.tac.extractLsb' 0 2 = s.timer.tac.extractLsb' 0 2)
    ∨ (a = 0xFF07 ∧ t.timer.timaAcc = 0)
  iflag : a = 0xFF0F ∨ t.irq.iflag = s.irq.iflag
  overlay : t.bootOverlay = s.bootOverlay ∨ (a = 0xFF50 ∧ v ≠ 0 ∧ t.bootOverlay = false)

variable {v s} in
/-- A store that changes neither the display, nor the timer, nor IF, nor the overlay. -/
theorem StoreFrame.of_eq {t : State} (hd : t.disp = s.disp) (ht : t.timer = s.timer) (hi : t.irq.iflag = s.irq.iflag)
    (ho : t.bootOverlay = s.bootOverlay) : StoreFrame v a s t :=
  ⟨by rw [hd], by rw [hd], by rw [hd], by rw [hd], .inl (by rw [ht]), .inl ⟨by rw [ht], by rw [ht]⟩, .inr hi, .inl ho⟩

@[simp] theorem dmaTrigger_disp : (dmaTrigger v s).disp = s.disp := by unfold dmaTrigger; split <;> simp

@[simp] theorem dmaTrigger_timer : (dmaTrigger v s).timer = s.timer := by unfold dmaTrigger; split <;> simp

@[simp] theorem dmaTrigger_bootOverlay : (dmaTrigger v s).bootOverlay = s.bootOverlay := by unfold dmaTrigger; split <;> simp

@[simp] theorem dmaTrigger_image : (dmaTrigger v s).cart.image = s.cart.image := by unfold dmaTrigger; split <;> simp

theorem writeTac_timaAcc (t : Timer) :
    ((writeTac v t).timaAcc = t.timaAcc ∧ (writeTac v t).tac.extractLsb' 0 2 = t.tac.extractLsb' 0 2)
      ∨ (writeTac v t).timaAcc = 0 := by
  by_cases h : (v.extractLsb' 0 3).extractLsb' 0 2 = t.tac.extractLsb' 0 2
  · exact .inl ⟨if_pos h, h⟩
  · exact .inr (if_neg h)

theorem ioWrite_frame : StoreFrame v a s (ioWrite a v s) := by
  have place := ioReg_place a
  unfold ioWrite
  cases hr : ioReg a <;> rw [hr] at place
  case ext => exact .of_eq (by simp) (by simp) (by simp) (by simp)
  case dma => exact .of_eq (by simp) (by simp) (by simp) (by simp)
  case div => exact ⟨rfl, rfl, rfl, rfl, .inr ⟨place, rfl⟩, .inl ⟨rfl, rfl⟩, .inr rfl, .inl rfl⟩
  case tac =>
    have htac := writeTac_timaAcc v s.timer
    exact ⟨rfl, rfl, rfl, rfl, .inl rfl, htac.imp_right fun h => ⟨place, h⟩, .inr rfl, .inl rfl⟩
  case iflag => exact ⟨rfl, rfl, rfl, rfl, .inl rfl, .inl ⟨rfl, rfl⟩, .inl place, .inl rfl⟩
  case boot =>
    by_cases hv : v = 0
    · simp only [if_pos hv]
      exact .of_eq rfl rfl rfl rfl
    · simp only [if_neg hv]
      exact ⟨rfl, rfl, rfl, rfl, .inl rfl, .inl ⟨rfl, rfl⟩, .inr rfl, .inr ⟨place, hv, rfl⟩⟩
  all_goals exact ⟨rfl, rfl, rfl, rfl, .inl rfl, .inl ⟨rfl, rfl⟩, .inr rfl, .inl rfl⟩

theorem cartWrite_frame : StoreFrame v a s (cartWrite a v s) := by
  rw [cartWrite_eq]
  exact .of_eq rfl rfl rfl rfl

theorem memWrite_frame : StoreFrame v a s (memWrite a v s) := by
  unfold memWrite
  cases region false a
  case cart => exact cartWrite_frame v s
  case io => exact ioWrite_frame v s
  all_goals exact .of_eq rfl rfl rfl rfl

/-! ### The bytes a store does not reach -/

/-- Outside the I/O page a read sees nothing of the timer, the display, DMA and IF. -/
theorem readVal_with_devices (h : region s.bootOverlay b ≠ .io) (tm : Timer) (d : Display) (x : Byte) (f : BitVec 5) :
    readVal b { s with timer := tm, disp := d, dma := x, irq := { s.irq with iflag := f } } = readVal b s := by
  unfold readVal
  dsimp only
  cases hr : region s.bootOverlay b
  case io => exact absurd hr h
  all_goals rfl

/-- A register of the I/O map that is one location. -/
theorem eq_of_ioReg_eq (h : ioReg b = ioReg a) (hext : ioReg a ≠ .ext) (hun : ioReg a ≠ .unmapped) : b = a := by
  have pa := ioReg_place a
  have pb := ioReg_place b
  rw [h] at pb
  cases hr : ioReg a <;> rw [hr] at pa pb
  case ext => exact absurd hr hext
  case unmapped => exact absurd hr hun
  all_goals exact Eq.trans pb (Eq.symm pa)

/-- The registers of the I/O map that are parts of the devices: a store changes nothing but devices. -/
theorem ioWrite_eq_devices (hext : ioReg a ≠ .ext) (hdma : ioReg a ≠ .dma) (hboot : ioReg a ≠ .boot) :
    ∃ tm d f, ioWrite a v s = { s with timer := tm, disp := d, irq := { s.irq with iflag := f } } := by
  unfold ioWrite
  cases hr : ioReg a
  case ext => exact absurd hr hext
  case dma => exact absurd hr hdma
  case boot => exact absurd hr hboot
  all_goals exact ⟨_, _, _, rfl⟩

/-- A store to one register of the devices leaves what every other register reads as. -/
theorem ioVal_ioWrite_other (hext : ioReg a ≠ .ext) (hdma : ioReg a ≠ .dma) (hboot : ioReg a ≠ .boot)
    (hne : ioReg b ≠ ioReg a) : ioVal b (ioWrite a v s) = ioVal b s := by
  unfold ioVal ioWrite
  cases hr : ioReg a
  case ext => exact absurd hr hext
  case dma => exact absurd hr hdma
  case boot => exact absurd hr hboot
  all_goals
    cases hq : ioReg b
    all_goals first | rfl | exact absurd (hq.trans hr.symm) hne

theorem readVal_with_overlay_ended (h : 0xFF < b.toNat) : readVal b { s with bootOverlay := false } = readVal b s := by
  have hr : region s.bootOverlay b = region false b := region_of _ _ h
  unfold readVal
  rw [hr]
  rfl

/-- The value of DMA is read at its own address only. -/
theorem readVal_with_dma (h : b ≠ 0xFF46) : readVal b { s with dma := v } = readVal b s := by
  by_cases hio : region s.bootOverlay b = .io
  · have hval : ioVal b { s with dma := v } = ioVal b s := by
      have place := ioReg_place b
      unfold ioVal
      cases hr : ioReg b <;> rw [hr] at place
      case dma => exact absurd place h
      all_goals rfl
    simp only [readVal, hio, hval]
  · exact readVal_with_devices s hio s.timer s.disp v s.irq.iflag

theorem readVal_with_ie (h : b.toNat ≠ 0xFFFF) : readVal b { s with irq := { s.irq with ie := v } } = readVal b s := by
  have hie : region s.bootOverlay b ≠ .ie := by
    rcases region_cases s.bootOverlay b with ⟨e, g⟩ | ⟨e, g⟩ | ⟨e, g⟩ | ⟨e, g⟩ | ⟨e, g⟩ | ⟨e, g⟩ | ⟨e, g⟩ | ⟨e, g⟩ | ⟨e, g⟩ | ⟨e, g⟩
    case inr.inr.inr.inr.inr.inr.inr.inr.inr => exact absurd g h
    all_goals exact e ▸ Region.noConfusion
  unfold readVal
  dsimp only
  cases hr : region s.bootOverlay b
  case ie => exact absurd hr hie
  all_goals rfl

/-- OAM, which the DMA copy fills (R221). -/
def OamAddress (b : Word) : Prop := 0xFE00 ≤ b.toNat ∧ b.toNat ≤ 0xFE9F

/-- A byte outside OAM is behind no address that the DMA copy writes. -/
theorem physical_ne_oam (h : ¬ OamAddress b) {i : Nat} (hi : i < 160) : physical b ≠ 0xFE00 + i := by
  unfold OamAddress at h
  unfold physical
  split <;> omega

theorem coreOwned_afterRead (ho : coreOwned s b = true) : coreOwned (afterRead a s) b = true :=
  (coreOwned_congr s _ b (by simp) (by simp) (by simp)).trans ho

/-- One byte of the DMA copy leaves what is read outside OAM. -/
theorem readVal_dmaByte_other (ho : coreOwned s b = true) (h : ¬ OamAddress b) (src : Word) {i : Nat} (hi : i < 160) :
    coreOwned (dmaByte src s i) b = true ∧ readVal b (dmaByte src s i) = readVal b s := by
  rw [dmaByte_eq]
  refine ⟨(coreOwned_congr s _ b (by simp) (by simp) (by simp)).trans ho, ?_⟩
  rw [readVal_ramWrite_other _ _ _ _ (physical_ne_oam h hi), readVal_afterRead _ _ _ ho]

theorem readVal_dmaCopy_other (ho : coreOwned s b = true) (h : ¬ OamAddress b) : readVal b (dmaCopy v s) = readVal b s := by
  refine (dmaCopy_keeps (fun t => coreOwned t b = true ∧ readVal b t = readVal b s) v s ⟨ho, rfl⟩ ?_).2
  rintro t i ⟨hto, ht⟩ hi
  obtain ⟨hown, hread⟩ := readVal_dmaByte_other t hto h (join v 0x00) hi
  exact ⟨hown, hread.trans ht⟩

theorem readVal_dmaTrigger_other (ho : coreOwned s b = true) (hb : b ≠ 0xFF46) (h : v.toNat ≤ 0xF1 → ¬ OamAddress b) :
    readVal b (dmaTrigger v s) = readVal b s := by
  unfold dmaTrigger
  dsimp only
  split
  case isTrue hv => rw [readVal_dmaCopy_other v { s with dma := v } ho (h hv), readVal_with_dma v s hb]
  case isFalse => exact readVal_with_dma v s hb

/-- A store to an I/O register changes what is read at its own address only, but for the DMA copy and the end of the overlay. -/
theorem readVal_ioWrite_other (ho : coreOwned s b = true) (hne : b ≠ a)
    (hdma : a = 0xFF46 → v.toNat ≤ 0xF1 → ¬ OamAddress b) (hboot : a = 0xFF50 → v ≠ 0 → 0xFF < b.toNat) :
    readVal b (ioWrite a v s) = readVal b s := by
  have place := ioReg_place a
  by_cases hext : ioReg a = .ext
  · have hw : ioWrite a v s = extWrite a v s := by simp only [ioWrite, hext]
    rw [hw]
    exact readVal_congr _ _ _ ho (by simp) (by simp) (by simp) (by simp) (by simp) (by simp) (by simp) (by simp) (by simp)
  by_cases hd : ioReg a = .dma
  · obtain rfl : a = 0xFF46 := by rwa [hd] at place
    exact readVal_dmaTrigger_other v s ho hne (hdma rfl)
  by_cases hbt : ioReg a = .boot
  · obtain rfl : a = 0xFF50 := by rwa [hbt] at place
    rw [show ioWrite 0xFF50 v s = if v = 0 then s else { s with bootOverlay := false } from rfl]
    split
    · rfl
    · exact readVal_with_overlay_ended s (hboot rfl ‹_›)
  obtain ⟨tm, d, f, hw⟩ := ioWrite_eq_devices v s hext hd hbt
  by_cases hio : region s.bootOverlay b = .io
  · by_cases hreg : ioReg b = ioReg a
    · by_cases hun : ioReg a = .unmapped
      · simp only [ioWrite, hun]
      · exact absurd (eq_of_ioReg_eq hreg hext hun) hne
    · have hover : (ioWrite a v s).bootOverlay = s.bootOverlay := by rw [hw]
      simp only [readVal, hover, hio, ioVal_ioWrite_other v s hext hd hbt hreg]
  · rw [hw]
    exact readVal_with_devices s hio tm d s.dma f

/-! ### The cartridge's known bytes -/

theorem cartKnown_cartWrite (b : Word) :
    cartKnown (cartWrite a v s) b = cartKnown s b ∨ (b = a ∧ cartKnown (cartWrite a v s) b = some v) := by
  cases hc : s.cfg.cartridge with
  | unnamed => exact .inl (by simp [cartKnown, hc])
  | named d => exact .inl (by simp [cartKnown, hc])
  | flat hasRam =>
    by_cases hw : hasRam = true ∧ 0xA000 ≤ a.toNat
    · have hk : cartKnown (cartWrite a v s) b = (s.cart.image.write a.toNat v).read b.toNat := by
        simp [cartKnown, hc, cartWrite_eq, hw]
      rw [hk, Memory.read_write]
      by_cases hab : a.toNat = b.toNat
      · exact .inr ⟨(BitVec.toNat_inj.mp hab).symm, if_pos hab⟩
      · exact .inl (by simp [hab, cartKnown, hc])
    · exact .inl (by simp [cartKnown, hc, cartWrite_eq, hw])

theorem readVal_cartWrite_other (ho : coreOwned s b = true) (hne : b ≠ a) : readVal b (cartWrite a v s) = readVal b s := by
  have hknown : cartKnown (cartWrite a v s) b = cartKnown s b :=
    (cartKnown_cartWrite v s b).resolve_right fun h => hne h.1
  have hval : (cartKnown s b).isSome = true → cartVal (cartWrite a v s) b = cartVal s b := by
    intro h
    obtain ⟨w, hw⟩ := Option.isSome_iff_exists.mp h
    rw [cartVal_known hw, cartVal_known (hknown.trans hw)]
  have hover : (cartWrite a v s).bootOverlay = s.bootOverlay := by rw [cartWrite_eq]
  unfold coreOwned at ho
  unfold readVal
  rw [hover, cartWrite_cfg]
  cases hr : region s.bootOverlay b <;> simp only [hr] at ho ⊢
  case boot =>
    cases hrom : s.cfg.bootRom with
    | some rom => rfl
    | none => exact hval (by simpa [hrom] using ho)
  case cart => exact hval ho
  case vram | wram | echo | oam | io | hram => rw [cartWrite_eq]; rfl
  case ie => rw [cartWrite_eq]

/-! ### Any store -/

theorem coreOwned_mono {t : State} (hc : t.cfg = s.cfg) (hr : region t.bootOverlay b = region s.bootOverlay b)
    (hk : (cartKnown s b).isSome = true → (cartKnown t b).isSome = true) (ho : coreOwned s b = true) : coreOwned t b = true := by
  unfold coreOwned at ho ⊢
  rw [hr, hc]
  cases h : region s.bootOverlay b <;> simp only [h] at ho ⊢
  case boot => exact (Bool.or_eq_true _ _).mpr (((Bool.or_eq_true _ _).mp ho).imp_right hk)
  case cart => exact hk ho
  case io => exact ho

theorem ioWrite_image : (ioWrite a v s).cart.image = s.cart.image := by
  unfold ioWrite
  cases ioReg a
  case ext => simp
  case dma => simp
  case boot => dsimp only; split <;> rfl
  all_goals rfl

/-- A store never makes a known byte of the cartridge unknown. -/
theorem cartKnown_memWrite (h : (cartKnown s b).isSome = true) : (cartKnown (memWrite a v s) b).isSome = true := by
  have hsame : ∀ t : State, t.cfg = s.cfg → t.cart.image = s.cart.image → (cartKnown t b).isSome = true := by
    intro t hc hi
    simpa only [cartKnown, hc, hi] using h
  unfold memWrite
  cases region false a
  case cart =>
    obtain hk | ⟨-, hk⟩ := cartKnown_cartWrite v s b
    · exact hk ▸ h
    · exact hk ▸ rfl
  case io => exact hsame _ (ioWrite_cfg ..) (ioWrite_image v s)
  all_goals exact hsame _ rfl rfl

/-- A store takes no byte from the core, but for those it hides by ending the overlay. -/
theorem coreOwned_memWrite (ho : coreOwned s b = true) (hb : ¬ storeTouches a v b) : coreOwned (memWrite a v s) b = true := by
  refine coreOwned_mono s (memWrite_cfg ..) ?_ (cartKnown_memWrite v s) ho
  obtain h | ⟨ha, hv, -⟩ := (memWrite_frame v s (a := a)).overlay
  · rw [h]
  · have hlow : 0xFF < b.toNat := by
      by_contra hlow
      exact hb (.inr (.inr ⟨ha, hv, by omega⟩))
    rw [region_of _ _ hlow, region_of s.bootOverlay _ hlow]

/-- A store leaves what is read at every core-owned address that it does not reach (R224, R241). -/
theorem readVal_memWrite_other (ho : coreOwned s b = true) (hb : ¬ storeTouches a v b) :
    readVal b (memWrite a v s) = readVal b s := by
  obtain ⟨hphys, hdma, hboot⟩ : physical b ≠ physical a ∧ (a = 0xFF46 → v.toNat ≤ 0xF1 → ¬ OamAddress b)
      ∧ (a = 0xFF50 → v ≠ 0 → 0xFF < b.toNat) := by
    refine ⟨fun h => hb (.inl h), fun ha hv h => hb (.inr (.inl ⟨ha, hv, h⟩)), fun ha hv => ?_⟩
    by_contra hlow
    exact hb (.inr (.inr ⟨ha, hv, by omega⟩))
  have hne : b ≠ a := fun h => hphys (h ▸ rfl)
  by_cases hs : isStorage (physical a) = true
  · rw [memWrite_storage v s hs]
    exact readVal_ramWrite_other s b _ v hphys
  unfold memWrite
  rcases region_cases false a with ⟨e, g⟩ | ⟨e, g⟩ | ⟨e, g⟩ | ⟨e, g⟩ | ⟨e, g⟩ | ⟨e, g⟩ | ⟨e, g⟩ | ⟨e, g⟩ | ⟨e, g⟩ | ⟨e, g⟩ <;> simp only [e]
  · exact readVal_cartWrite_other v s ho hne
  · exact absurd (isStorage_physical (.inl g)) hs
  · exact absurd (isStorage_physical (.inr (.inl (by omega)))) hs
  · exact absurd (isStorage_physical (.inr (.inl (by omega)))) hs
  · exact absurd (isStorage_physical (.inr (.inl (by omega)))) hs
  · exact readVal_ioWrite_other v s ho hne hdma hboot
  · exact absurd (isStorage_physical (.inr (.inr g))) hs
  · exact readVal_with_ie v s fun h => hne (BitVec.toNat_inj.mp (h.trans g.symm))

/-- Settles O33: what no address shows is in the frame of the store, and a byte keeps its value unless the store reaches its location. -/
theorem storesLeaveTheRest : Obligations.StoresLeaveTheRest := by
  intro s a v
  have frame := memWrite_frame v s (a := a)
  refine ⟨fun b ho hb => readVal_memWrite_other v s ho hb, memWrite_cfg .., memWrite_regs .., memWrite_halted .., memWrite_fault ..,
    memWrite_out .., memWrite_ime .., memWrite_imeDelayed .., memWrite_imeRequest .., frame.mode, frame.phaseTicks, frame.ly,
    frame.coincidence, fun h => ?div, fun h => ?tac⟩
  case div => exact frame.divAcc.resolve_right fun hd => h hd.1
  case tac => exact (frame.timaAcc.resolve_right fun ht => h ht.1).1

/-! ### The OAM DMA -/

/-- The model's copy of the first `n` bytes is that of the rule (R221). -/
theorem foldl_dmaByte_eq_copied (n : Nat) : (List.range n).foldl (dmaByte (join v 0x00)) s = copied v n s := by
  induction n with
  | zero => rfl
  | succ n ih =>
    rw [List.range_succ, List.foldl_append, ih, List.foldl_cons, List.foldl_nil]
    simp only [dmaByte_eq, copied, ramWrite, afterRead_mem, afterRead_cfg]
    rfl

theorem copied_succ (n : Nat) : copied v (n + 1) s = dmaByte (join v 0x00) (copied v n s) n := by
  rw [← foldl_dmaByte_eq_copied, List.range_succ, List.foldl_append, foldl_dmaByte_eq_copied]
  rfl

theorem memWrite_dma : memWrite 0xFF46 v s = if v.toNat ≤ 0xF1 then copied v 160 { s with dma := v } else { s with dma := v } := by
  rw [← foldl_dmaByte_eq_copied]
  exact memWrite_io v s (by decide)

/-- The address of byte `i` of OAM. -/
theorem toNat_oam {i : Nat} (hi : i < 160) : (0xFE00 + BitVec.ofNat 16 i : Word).toNat = 0xFE00 + i := by bv_omega

/-- Byte `i` of OAM reads as byte `i` of the source from its copy on. -/
theorem readVal_oam_copied {i : Nat} (hi : i < 160) (n : Nat) (hn : n ≤ 160) (hin : i < n) :
    readVal (0xFE00 + BitVec.ofNat 16 i) (copied v n s) = readVal (join v 0x00 + BitVec.ofNat 16 i) (copied v i s) := by
  have haddr := toNat_oam hi
  have hphys : physical (0xFE00 + BitVec.ofNat 16 i : Word) = 0xFE00 + i := by rw [physical_of_not_echo (by omega), haddr]
  have hstore : isStorage (physical (0xFE00 + BitVec.ofNat 16 i : Word)) = true := isStorage_physical (.inr (.inl (by omega)))
  induction n, hin using Nat.le_induction with
  | base =>
    rw [copied_succ, dmaByte_eq, readVal_storage _ hstore, hphys, ramVal_ramWrite, if_pos rfl]
  | succ n hin ih =>
    rw [← ih (by omega), copied_succ, dmaByte_eq, readVal_ramWrite_other _ _ _ _ (by rw [hphys]; omega)]
    rw [readVal_storage _ hstore, readVal_storage _ hstore, ramVal, afterRead_mem, afterRead_cfg]
    rfl

/-- The bytes copied so far change nothing that is read outside OAM. -/
theorem readVal_copied_other (ho : coreOwned s b = true) (h : ¬ OamAddress b) (n : Nat) (hn : n ≤ 160) :
    coreOwned (copied v n s) b = true ∧ readVal b (copied v n s) = readVal b s := by
  induction n with
  | zero => exact ⟨ho, rfl⟩
  | succ n ih =>
    obtain ⟨hown, hread⟩ := ih (by omega)
    rw [copied_succ, ← hread]
    exact readVal_dmaByte_other _ hown h _ (by omega)

/-- Settles O34: the copy of the model is that of the rule byte by byte; its sources lie below OAM, so no byte of the core that it reads was
written by it. -/
theorem dmaCopy : Obligations.DmaCopy := by
  intro s v
  refine ⟨fun h => ?none, fun h => ⟨?copy, fun i hi => ⟨?byte, fun ho => ?source⟩⟩⟩
  case none => rw [memWrite_dma, if_neg (by omega)]
  case copy => rw [memWrite_dma, if_pos h]
  case byte =>
    rw [memWrite_dma, if_pos h]
    exact readVal_oam_copied v _ hi 160 le_rfl hi
  case source =>
    have hsrc : ((v ++ 0x00#8 : Word) + BitVec.ofNat 16 i).toNat = 256 * v.toNat + i := by
      rw [BitVec.toNat_add, BitVec.toNat_append, BitVec.toNat_ofNat, BitVec.toNat_ofNat, Nat.or_zero, Nat.shiftLeft_eq]
      omega
    have hoam : ¬ OamAddress ((v ++ 0x00#8 : Word) + BitVec.ofNat 16 i) := by
      unfold OamAddress
      omega
    have hne : (v ++ 0x00#8 : Word) + BitVec.ofNat 16 i ≠ 0xFF46 := by
      intro he
      rw [he] at hsrc
      have : (0xFF46 : Word).toNat = 0xFF46 := rfl
      omega
    rw [(readVal_copied_other v { s with dma := v } ho hoam i (by omega)).2, readVal_with_dma v s hne]

end Sys2Proof.Proofs
end

section
/-! PROOFS. The delivery of ticks (R701, R775, R782 to R787): that two deliveries add, the phases of the display, and its frame. -/

namespace Sys2Proof.Proofs

open Sys2Proof.Machine Sys2Proof.Claims

/-! ### The timer -/

theorem timaBumps_add (m n : Nat) (s : State) : timaBumps (m + n) s = timaBumps n (timaBumps m s) := by
  induction m generalizing s with
  | zero => rw [Nat.zero_add]; rfl
  | succ m ih => rw [Nat.succ_add]; exact ih (timaBump s)

/-- The divider loses no tick between two deliveries. -/
theorem dividerTick_add (a b : Nat) (t : Timer) : dividerTick b (dividerTick a t) = dividerTick (a + b) t := by
  have hcount : (t.divAcc + a) / 256 + ((t.divAcc + a) % 256 + b) / 256 = (t.divAcc + (a + b)) / 256 := by omega
  have hacc : ((t.divAcc + a) % 256 + b) % 256 = (t.divAcc + (a + b)) % 256 := by omega
  simp only [dividerTick, hacc, BitVec.add_assoc, ← BitVec.ofNat_add, hcount]

/-- The counter loses no tick between two deliveries. -/
theorem counts_add (acc a b : Nat) {n : Nat} (hn : 0 < n) :
    (acc + a) / n + ((acc + a) % n + b) / n = (acc + (a + b)) / n ∧ ((acc + a) % n + b) % n = (acc + (a + b)) % n := by
  have h := Nat.div_add_mod (acc + a) n
  have hsum : acc + (a + b) = ((acc + a) % n + b) + n * ((acc + a) / n) := by omega
  rw [hsum, Nat.add_mul_div_left _ _ hn, Nat.add_mul_mod_self_left]
  exact ⟨Nat.add_comm _ _, rfl⟩

theorem timerTick_add (a b : Nat) (s : State) : timerTick b (timerTick a s) = timerTick (a + b) s := by
  cases h : s.timer.tac.getLsbD 2 with
  | false =>
    rw [timerTick_stopped a h, timerTick_stopped (a + b) h, timerTick_stopped b (by exact h), dividerTick_add]
  | true =>
    have hdiv := timerDivisor_eq_divisor s.timer.tac ▸ timerDivisor_pos s.timer.tac
    obtain ⟨hcount, hacc⟩ := counts_add s.timer.timaAcc a b hdiv
    have hdivider := dividerTick_add a b s.timer
    simp only [dividerTick, Timer.mk.injEq] at hdivider
    obtain ⟨hd, hda, -⟩ := hdivider
    rw [timerTick_running a h, timerTick_running (a + b) h, ← hcount, timaBumps_add, timaBumps_eq _ { s with timer := _ },
      timerTick_running b (by exact h), timaBumps_eq _ { s with timer := _ }]
    simp only [dividerTick, hacc, hd, hda]

/-! ### The ends of the phases -/

/-- A request by a STAT enable. -/
theorem or_stat (f : BitVec 5) (x : Bool) : f ||| (if x then 0b00010 else 0) = withRequests x false f := by revert f x; decide

/-- Requests by two STAT enables are one request. -/
theorem or_stat_stat (f : BitVec 5) (x y : Bool) :
    f ||| (if x then 0b00010 else 0) ||| (if y then 0b00010 else 0) = withRequests (x || y) false f := by
  revert f x y
  decide

/-- Requests by two STAT enables with a v-blank request between them. -/
theorem or_stat_vblank_stat (f : BitVec 5) (x y : Bool) :
    f ||| (if x then 0b00010 else 0 : BitVec 5) ||| (1#5 <<< 0) ||| (if y then 0b00010 else 0 : BitVec 5) = withRequests (x || y) true f := by
  revert f x y
  decide

theorem withRequests_none (f : BitVec 5) : withRequests false false f = f := by revert f; decide

/-- A new line and a STAT request after it, as one phase end that makes no v-blank request. -/
theorem statRequest_setMode_setLine (bit : Nat) (m : Mode) (line : Byte) (s : State) :
    statRequest bit (setMode m (setLine line s))
      = afterPhase m line (line == s.disp.lyc) ((line == s.disp.lyc && s.disp.statEn.getLsbD 3) || s.disp.statEn.getLsbD bit) false s := by
  rw [setLine_eq, setMode, statRequest_eq, afterPhase]
  simp only [or_stat_stat, Bool.or_assoc, Bool.or_false]

section PhaseEnd
variable {s : State}

theorem phaseEnd_oamScan (h : s.disp.mode = .oamScan) :
    phaseEnd s = afterPhase .transfer s.disp.ly s.disp.coincidence false false s := by
  simp only [phaseEnd, h, setMode, afterPhase, withRequests_none, Bool.or_false]

theorem phaseEnd_transfer (h : s.disp.mode = .transfer) :
    phaseEnd s = afterPhase .hBlank s.disp.ly s.disp.coincidence (s.disp.statEn.getLsbD 0) false s := by
  simp only [phaseEnd, h, setMode, afterPhase, statRequest_eq, or_stat, Bool.or_false]

theorem phaseEnd_hBlank (h : s.disp.mode = .hBlank) :
    phaseEnd s
      = if s.disp.ly + 1 = 144 then
          afterPhase .vBlank (s.disp.ly + 1) (s.disp.ly + 1 == s.disp.lyc)
            ((s.disp.ly + 1 == s.disp.lyc && s.disp.statEn.getLsbD 3) || s.disp.statEn.getLsbD 1) true s
        else
          afterPhase .oamScan (s.disp.ly + 1) (s.disp.ly + 1 == s.disp.lyc)
            ((s.disp.ly + 1 == s.disp.lyc && s.disp.statEn.getLsbD 3) || s.disp.statEn.getLsbD 2) false s := by
  have hly : (setLine (s.disp.ly + 1) s).disp.ly = s.disp.ly + 1 := by rw [setLine_eq]
  simp only [phaseEnd, h, endHBlank, hly]
  split
  · rw [setLine_eq, setMode, raiseVblank, raiseLine, statRequest_eq, afterPhase]
    simp only [or_stat_vblank_stat, Bool.or_assoc, Bool.or_true]
  · exact statRequest_setMode_setLine ..

/-- The line after a line of v-blank (R784). -/
def lineAfter (ly : Byte) : Byte := if ly + 1 = 154 then 0 else ly + 1

theorem phaseEnd_vBlank (h : s.disp.mode = .vBlank) :
    phaseEnd s
      = if lineAfter s.disp.ly = 0 then
          afterPhase .oamScan (lineAfter s.disp.ly) (lineAfter s.disp.ly == s.disp.lyc)
            ((lineAfter s.disp.ly == s.disp.lyc && s.disp.statEn.getLsbD 3) || s.disp.statEn.getLsbD 2) false s
        else
          afterPhase .vBlank (lineAfter s.disp.ly) (lineAfter s.disp.ly == s.disp.lyc)
            (lineAfter s.disp.ly == s.disp.lyc && s.disp.statEn.getLsbD 3) false s := by
  have hend : endVBlankLine s
      = if (setLine (lineAfter s.disp.ly) s).disp.ly = 0 then statRequest 2 (setMode .oamScan (setLine (lineAfter s.disp.ly) s))
        else setLine (lineAfter s.disp.ly) s := rfl
  have hly : (setLine (lineAfter s.disp.ly) s).disp.ly = lineAfter s.disp.ly := by rw [setLine_eq]
  simp only [phaseEnd, h, hend, hly]
  split
  · exact statRequest_setMode_setLine ..
  · rw [setLine_eq, afterPhase, or_stat, ← h, Bool.or_false]

end PhaseEnd

/-! ### The loop of the display -/

/-- Whether the display stands still (R782). -/
def gated (s : State) : Bool := s.cfg.lcdGating && !s.disp.lcdc.getLsbD 7

/-- A state with its phase's ticks set. -/
def withPhaseTicks (x : Nat) (s : State) : State := { s with disp := { s.disp with phaseTicks := x } }

/-- A state with ticks added to its phase. -/
def addPhaseTicks (t : Nat) (s : State) : State := withPhaseTicks (s.disp.phaseTicks + t) s

/-- All the phase ends that the ticks of the phase allow. -/
def settle (s : State) : State := phaseLoop (s.disp.phaseTicks / 80) s

theorem displayTick_eq (t : Nat) (s : State) : displayTick t s = if gated s then s else settle (addPhaseTicks t s) := rfl

theorem phaseStep_eq (s : State) : phaseStep s = phaseEnd (withPhaseTicks (s.disp.phaseTicks - s.disp.mode.duration) s) := rfl

theorem phaseLoop_of_lt (n : Nat) {s : State} (h : s.disp.phaseTicks < s.disp.mode.duration) : phaseLoop n s = s := by
  cases n with
  | zero => rfl
  | succ n => rw [phaseLoop, if_pos h]

theorem settle_of_lt {s : State} (h : s.disp.phaseTicks < s.disp.mode.duration) : settle s = s := phaseLoop_of_lt _ h

/-- A phase whose ticks are full ends, and the rest settles. -/
theorem settle_of_le {s : State} (h : s.disp.mode.duration ≤ s.disp.phaseTicks) : settle s = settle (phaseStep s) := by
  have hdur := Mode.duration_ge s.disp.mode
  obtain ⟨n, hn⟩ : ∃ n, s.disp.phaseTicks / 80 = n + 1 := ⟨s.disp.phaseTicks / 80 - 1, by omega⟩
  have hle : (phaseStep s).disp.phaseTicks / 80 ≤ n := by rw [phaseStep_ticks]; omega
  obtain ⟨k, rfl⟩ := Nat.exists_eq_add_of_le hle
  rw [settle, hn, phaseLoop, if_neg (by omega), phaseLoop_more _ k _ le_rfl]
  rfl

/-- The end of a phase does not look at the ticks. -/
theorem phaseEnd_withPhaseTicks (x : Nat) (s : State) : phaseEnd (withPhaseTicks x s) = withPhaseTicks x (phaseEnd s) := by
  cases hm : s.disp.mode
  case oamScan => rw [phaseEnd_oamScan hm, phaseEnd_oamScan (by exact hm)]; rfl
  case transfer => rw [phaseEnd_transfer hm, phaseEnd_transfer (by exact hm)]; rfl
  case hBlank =>
    rw [phaseEnd_hBlank hm, phaseEnd_hBlank (by exact hm), apply_ite (withPhaseTicks x)]
    rfl
  case vBlank =>
    rw [phaseEnd_vBlank hm, phaseEnd_vBlank (by exact hm), apply_ite (withPhaseTicks x)]
    rfl

/-- Ticks that come after the end of a phase may come before it. -/
theorem phaseStep_addPhaseTicks (t : Nat) {s : State} (h : s.disp.mode.duration ≤ s.disp.phaseTicks) :
    phaseStep (addPhaseTicks t s) = addPhaseTicks t (phaseStep s) := by
  have hticks : s.disp.phaseTicks + t - s.disp.mode.duration = s.disp.phaseTicks - s.disp.mode.duration + t := by omega
  show phaseEnd (withPhaseTicks (s.disp.phaseTicks + t - s.disp.mode.duration) s)
    = withPhaseTicks ((phaseStep s).disp.phaseTicks + t) (phaseStep s)
  rw [phaseStep_ticks, hticks, phaseEnd_withPhaseTicks, phaseStep_eq, phaseEnd_withPhaseTicks]
  rfl

/-- Ticks may be added before or after the phases settle. -/
theorem settle_addPhaseTicks_settle (t : Nat) (s : State) : settle (addPhaseTicks t (settle s)) = settle (addPhaseTicks t s) := by
  induction hx : s.disp.phaseTicks using Nat.strong_induction_on generalizing s with
  | _ x ih =>
    by_cases h : s.disp.phaseTicks < s.disp.mode.duration
    · rw [settle_of_lt h]
    · have hle : s.disp.mode.duration ≤ s.disp.phaseTicks := by omega
      have hdur := Mode.duration_ge s.disp.mode
      have hlt : (phaseStep s).disp.phaseTicks < x := by rw [phaseStep_ticks]; omega
      have hadd : (addPhaseTicks t s).disp.mode.duration ≤ (addPhaseTicks t s).disp.phaseTicks := Nat.le_add_right_of_le hle
      rw [settle_of_le hle, ih _ hlt _ rfl, ← phaseStep_addPhaseTicks t hle, ← settle_of_le hadd]

theorem gated_displayTick (t : Nat) (s : State) : gated (displayTick t s) = gated s := by
  obtain ⟨_, _, _, _, _, _, _, h⟩ := displayTick_cases t s
  rw [h]
  rfl

theorem displayTick_add (a b : Nat) (s : State) : displayTick b (displayTick a s) = displayTick (a + b) s := by
  rw [displayTick_eq b, gated_displayTick, displayTick_eq a, displayTick_eq (a + b)]
  cases gated s with
  | true => rfl
  | false =>
    have hsum : addPhaseTicks b (addPhaseTicks a s) = addPhaseTicks (a + b) s := by
      simp only [addPhaseTicks, withPhaseTicks, Nat.add_assoc]
    simp only [Bool.false_eq_true, if_false]
    rw [settle_addPhaseTicks_settle, hsum]

/-- Settles O56: the quotients and remainders of the accumulators add up, and ticks may be added before or after the phases end. -/
theorem deliveriesAdd : Obligations.DeliveriesAdd := fun a b s => ⟨timerTick_add a b s, displayTick_add a b s⟩

/-! ### Phases and frames -/

theorem gated_eq_false {s : State} (h : s.cfg.lcdGating = false ∨ s.disp.lcdc.getLsbD 7 = true) : gated s = false := by
  obtain h | h := h <;> simp [gated, h]

/-- A delivery that does not reach the end of the phase. -/
theorem displayTick_within {s : State} (t : Nat) (hg : gated s = false) (h : s.disp.phaseTicks + t < s.disp.mode.duration) :
    displayTick t s = withPhaseTicks (s.disp.phaseTicks + t) s := by
  rw [displayTick_eq, hg, if_neg (by simp)]
  exact settle_of_lt h

/-- The end of a phase does not change its ticks. -/
theorem phaseEnd_phaseTicks (s : State) : (phaseEnd s).disp.phaseTicks = s.disp.phaseTicks := by
  obtain ⟨_, _, _, _, _, _, h⟩ := phaseEnd_cases s
  rw [h]

/-- A delivery that reaches the end of the phase exactly. -/
theorem displayTick_exact {s : State} (t : Nat) (hg : gated s = false) (h : s.disp.phaseTicks + t = s.disp.mode.duration) :
    displayTick t s = phaseEnd (withPhaseTicks 0 s) := by
  have hstep : phaseStep (addPhaseTicks t s) = phaseEnd (withPhaseTicks 0 s) := by
    show phaseEnd (withPhaseTicks (s.disp.phaseTicks + t - s.disp.mode.duration) s) = _
    rw [h, Nat.sub_self]
  have hlt : (phaseEnd (withPhaseTicks 0 s)).disp.phaseTicks < (phaseEnd (withPhaseTicks 0 s)).disp.mode.duration := by
    have hdur := Mode.duration_ge (phaseEnd (withPhaseTicks 0 s)).disp.mode
    rw [phaseEnd_phaseTicks]
    exact Nat.lt_of_lt_of_le (show 0 < 80 by decide) hdur
  rw [displayTick_eq, hg, if_neg (by simp), settle_of_le (Nat.le_of_eq h.symm), hstep, settle_of_lt hlt]

/-- Settles O57: a delivery does nothing to a gated display, stays inside the phase, or ends the phase with nothing left over. -/
theorem displayPhases : Obligations.DisplayPhases := by
  refine ⟨fun t s hl hd => ?gated, fun t s hg h => displayTick_within t (gated_eq_false hg) h, ⟨rfl, rfl, rfl, rfl⟩,
    fun t s hg _ h => ?exact⟩
  case gated =>
    rw [displayTick_eq, gated, hl, hd]
    rfl
  case exact =>
    rw [displayTick_exact t (gated_eq_false hg) h]
    cases hm : s.disp.mode
    case oamScan => exact phaseEnd_oamScan hm
    case transfer => exact phaseEnd_transfer hm
    case hBlank => exact phaseEnd_hBlank (s := withPhaseTicks 0 s) hm
    case vBlank => exact phaseEnd_vBlank (s := withPhaseTicks 0 s) hm

theorem getLsbD_zero_withRequests (stat vblank : Bool) (f : BitVec 5) :
    (withRequests stat vblank f).getLsbD 0 = (f.getLsbD 0 || vblank) := by revert stat vblank f; decide

/-- A phase end that leaves the display at the start of line `k`, and its v-blank request. -/
theorem afterPhase_lineStart {s : State} (hticks : s.disp.phaseTicks = 0) {k : Nat} {mode : Mode} {ly : Byte} (hly : ly = BitVec.ofNat 8 k)
    (hmode : mode = if k < 144 then .oamScan else .vBlank) (hit stat vblank : Bool) :
    AtLineStart k (afterPhase mode ly hit stat vblank s).disp
      ∧ (afterPhase mode ly hit stat vblank s).irq.iflag.getLsbD 0 = (s.irq.iflag.getLsbD 0 || vblank)
      ∧ (afterPhase mode ly hit stat vblank s).out.vblankNote = (s.out.vblankNote || vblank) :=
  ⟨⟨hly, hticks, hmode⟩, getLsbD_zero_withRequests _ _ _, rfl⟩

/-- The first two phases of a line take 252 ticks and make no v-blank request. -/
theorem displayTick_to_hBlank {s : State} (hg : gated s = false) (hticks : s.disp.phaseTicks = 0) (hm : s.disp.mode = .oamScan) :
    ∃ t : State, displayTick 252 s = t ∧ gated t = false ∧ t.disp.phaseTicks = 0 ∧ t.disp.mode = .hBlank ∧ t.disp.ly = s.disp.ly
      ∧ t.irq.iflag.getLsbD 0 = s.irq.iflag.getLsbD 0 ∧ t.out.vblankNote = s.out.vblankNote := by
  rw [show 252 = 80 + 172 from rfl, ← displayTick_add, displayTick_exact 80 hg (by rw [hticks, hm]; rfl), phaseEnd_oamScan (by exact hm),
    displayTick_exact 172 (by exact hg) rfl, phaseEnd_transfer rfl]
  refine ⟨_, rfl, hg, rfl, rfl, rfl, ?_, ?_⟩
  · show (withRequests _ false (withRequests false false s.irq.iflag)).getLsbD 0 = _
    rw [getLsbD_zero_withRequests, getLsbD_zero_withRequests, Bool.or_false, Bool.or_false]
  · show ((s.out.vblankNote || false) || false) = _
    rw [Bool.or_false, Bool.or_false]

/-- Settles O58: a visible line is three phases of 80, 172 and 204 ticks and a line of v-blank is one of 456, each ended exactly, and only the
end of the h-blank of line 143 makes the v-blank request. -/
theorem displayFrame : Obligations.DisplayFrame := by
  intro s hgate n hn ⟨hly, hticks, hmode⟩
  have hg := gated_eq_false hgate
  by_cases hvis : n < 144
  · rw [if_pos hvis] at hmode
    obtain ⟨u, hu, hgu, hut, hum, huly, huif, hunote⟩ := displayTick_to_hBlank hg hticks hmode
    have hline : u.disp.ly + 1 = BitVec.ofNat 8 (n + 1) := by rw [huly, hly]; bv_omega
    have h143 : u.disp.ly + 1 = 144 ↔ n = 143 := by rw [hline]; bv_omega
    rw [show 456 = 252 + 204 from rfl, ← displayTick_add, hu, displayTick_exact 204 hgu (by rw [hut, hum]; rfl),
      phaseEnd_hBlank (by exact hum), if_neg (by omega : ¬ n = 153), ← huif, ← hunote]
    by_cases hlast : n = 143
    · simp only [hlast, beq_self_eq_true]
      rw [if_pos (by exact h143.mpr hlast)]
      exact afterPhase_lineStart rfl (hlast ▸ hline) rfl _ _ _
    · rw [if_neg (by exact fun h => hlast (h143.mp h)), beq_eq_false_iff_ne.mpr hlast]
      exact afterPhase_lineStart rfl hline (if_pos (by omega)).symm _ _ _
  · rw [if_neg hvis] at hmode
    have hafter : lineAfter s.disp.ly = BitVec.ofNat 8 (if n = 153 then 0 else n + 1) := by
      rw [hly, lineAfter]
      split <;> split <;> bv_omega
    rw [displayTick_exact 456 hg (by rw [hticks, hmode]; rfl), phaseEnd_vBlank (by exact hmode),
      beq_eq_false_iff_ne.mpr (by omega : n ≠ 143)]
    by_cases hlast : n = 153
    · rw [if_pos hlast] at hafter ⊢
      rw [if_pos (by exact hafter)]
      exact afterPhase_lineStart rfl hafter rfl _ _ _
    · rw [if_neg hlast] at hafter ⊢
      have hne : lineAfter s.disp.ly ≠ 0 := by rw [hafter]; bv_omega
      rw [if_neg (by exact hne)]
      exact afterPhase_lineStart rfl hafter (if_neg (by omega)).symm _ _ _

end Sys2Proof.Proofs
end

section
/-! PROOFS. What each instruction does: its reads, its stores, its flags, its PC, its ticks and its part in the interrupt pipeline, said once
for all instructions, and that no well-formed instruction fails but by the two policies. -/

namespace Sys2Proof.Proofs

open Sys2Proof.Machine Sys2Proof.Claims Sys2Proof.Laws

/-! ### Accesses -/

/-- A run of bus reads leads from one state to another. -/
inductive Reads : State → State → Prop where
  | none (s : State) : Reads s s
  | read {s t : State} (a : Word) (h : Reads s t) : Reads s (afterRead a t)

/-- The stores of a list, one after another. -/
def stores (l : List (Word × Byte)) (s : State) : State := l.foldl (fun t x => memWrite x.1 x.2 t) s

theorem reads_readHl (s : State) : Reads s (readHl s) := .read _ (.none s)

theorem reads_poppedState (s : State) : Reads s (poppedState s) := .read _ (.read _ (.none s))

/-- What every read keeps, a run of reads keeps. -/
theorem Reads.keeps {s t : State} (h : Reads s t) (P : State → Prop) (hP : ∀ a u, P u → P (afterRead a u)) (hs : P s) : P t := by
  induction h with
  | none => exact hs
  | read a _ ih => exact hP a _ ih

/-- What every store of a list keeps, the list keeps. -/
theorem stores_keeps {l : List (Word × Byte)} (P : State → Prop) (hP : ∀ x ∈ l, ∀ u, P u → P (memWrite x.1 x.2 u)) {s : State} (hs : P s) :
    P (stores l s) := by
  induction l generalizing s with
  | nil => exact hs
  | cons x l ih =>
    exact ih (fun y hy => hP y (List.mem_cons_of_mem x hy)) (hP x List.mem_cons_self s hs)

/-- The parts of a state that no access changes. -/
structure SameControl (s t : State) : Prop where
  cfg : t.cfg = s.cfg
  halted : t.halted = s.halted
  fault : t.fault = s.fault
  ime : t.irq.ime = s.irq.ime
  imeDelayed : t.irq.imeDelayed = s.irq.imeDelayed
  imeRequest : t.irq.imeRequest = s.irq.imeRequest

theorem SameControl.afterRead {s t : State} (h : SameControl s t) (a : Word) : SameControl s (afterRead a t) :=
  ⟨by simp [h.cfg], by simp [h.halted], by simp [h.fault], by simp [h.ime], by simp [h.imeDelayed], by simp [h.imeRequest]⟩

theorem SameControl.memWrite {s t : State} (h : SameControl s t) (a : Word) (v : Byte) : SameControl s (memWrite a v t) :=
  ⟨by simp [h.cfg], by simp [h.halted], by simp [h.fault], by simp [h.ime], by simp [h.imeDelayed], by simp [h.imeRequest]⟩

theorem sameControl_stores_reads {s r : State} (hr : Reads s r) (l : List (Word × Byte)) : SameControl s (stores l r) :=
  stores_keeps (SameControl s) (fun _ _ _ h => h.memWrite ..)
    (hr.keeps (SameControl s) (fun a _ h => h.afterRead a) ⟨rfl, rfl, rfl, rfl, rfl, rfl⟩)

/-! ### What a completed instruction has done -/

/-- One state is another but for the registers, the halt, the IME pipeline and the outputs. -/
structure SameMemory (m t : State) : Prop where
  cfg : t.cfg = m.cfg
  fault : t.fault = m.fault
  timer : t.timer = m.timer
  disp : t.disp = m.disp
  dma : t.dma = m.dma
  bootOverlay : t.bootOverlay = m.bootOverlay
  mem : t.mem = m.mem
  cart : t.cart = m.cart
  ext : t.ext = m.ext
  ie : t.irq.ie = m.irq.ie
  iflag : t.irq.iflag = m.irq.iflag

theorem sameMemory_of_control (m : State) (g : Regs) (irq : Interrupts) (hie : irq.ie = m.irq.ie) (hif : irq.iflag = m.irq.iflag) (h : Bool)
    (out : StepOut) : SameMemory m { m with regs := g, irq := irq, halted := h, out := out } :=
  ⟨rfl, rfl, rfl, rfl, rfl, rfl, rfl, rfl, rfl, hie, hif⟩

/-- Everything that the rules over all instructions say of an instruction and the state it leaves. -/
structure Done (i : Instr) (s t : State) : Prop where
  memory : ∃ r, Reads s r ∧ SameMemory (stores (storesOf i s) r) t
  halted : i ≠ .halt → i ≠ .stop → t.halted = s.halted
  ime : i ≠ .reti → t.irq.ime = s.irq.ime ∧ t.irq.imeDelayed = s.irq.imeDelayed
  imeRequest : i ≠ .di → i ≠ .ei → i ≠ .reti → t.irq.imeRequest = s.irq.imeRequest
  flags : writesFlags (opcode i) (secondByte i) = false → t.regs.flags = s.regs.flags
  pc : setsPc (opcode i) = false → t.regs.pc = s.regs.pc + BitVec.ofNat 16 (encode s.cfg.stopLength i).length
  ticks : t.out.ticks = expectedTicks (opcode i) (secondByte i) s

/-- An instruction answers a next state and has done what the rules say. -/
def Completes (i : Instr) (s : State) : Prop := ∃ t, exec i s = .next t ∧ Done i s t

/-- What the tables say of an instruction in a state: its length, its ticks and its stores. -/
structure Sheet (i : Instr) (s : State) (len ticks : Nat) (l : List (Word × Byte)) : Prop where
  length : (encode s.cfg.stopLength i).length = len
  ticks : expectedTicks (opcode i) (secondByte i) s = ticks
  stores : storesOf i s = l

section Ends
variable {i : Instr} {s r : State} {g : Regs} {len ticks : Nat} {l : List (Word × Byte)}

/-- An instruction that goes on to the next one after its accesses. -/
theorem done_onward (hs : Sheet i s len ticks l) (hr : Reads s r) (hpc : g.pc = s.regs.pc)
    (hflags : g.flags = s.regs.flags ∨ writesFlags (opcode i) (secondByte i) = true) : Done i s (onward len ticks g (stores l r)) := by
  have hc := sameControl_stores_reads hr l
  obtain ⟨hlen, hticks, rfl⟩ := hs
  refine ⟨⟨r, hr, sameMemory_of_control _ _ _ rfl rfl _ _⟩, fun _ _ => hc.halted, fun _ => ⟨hc.ime, hc.imeDelayed⟩,
    fun _ _ _ => hc.imeRequest, fun hf => ?flags, fun _ => ?pc, hticks.symm⟩
  case flags => exact hflags.resolve_right (by simp [hf])
  case pc =>
    rw [hlen, ← hpc]
    rfl

/-- An instruction that goes to a target after its accesses. -/
theorem done_landing {target : Word} (hs : Sheet i s len ticks l) (hr : Reads s r) (hpc : setsPc (opcode i) = true)
    (hflags : g.flags = s.regs.flags) : Done i s (landing target ticks g (stores l r)) := by
  have hc := sameControl_stores_reads hr l
  obtain ⟨-, hticks, rfl⟩ := hs
  exact ⟨⟨r, hr, sameMemory_of_control _ _ _ rfl rfl _ _⟩, fun _ _ => hc.halted, fun _ => ⟨hc.ime, hc.imeDelayed⟩,
    fun _ _ _ => hc.imeRequest, fun _ => hflags, fun hf => by simp [hf] at hpc, hticks.symm⟩

theorem completes_onward (hs : Sheet i s len ticks l) (hr : Reads s r) (hx : exec i s = .next (onward len ticks g (stores l r)))
    (hpc : g.pc = s.regs.pc) (hflags : g.flags = s.regs.flags ∨ writesFlags (opcode i) (secondByte i) = true) : Completes i s :=
  ⟨_, hx, done_onward hs hr hpc hflags⟩

theorem completes_landing {target : Word} (hs : Sheet i s len ticks l) (hr : Reads s r)
    (hx : exec i s = .next (landing target ticks g (stores l r))) (hpc : setsPc (opcode i) = true) (hflags : g.flags = s.regs.flags) :
    Completes i s :=
  ⟨_, hx, done_landing hs hr hpc hflags⟩

end Ends

/-! ### The register files keep PC and the flags -/

section Regs
variable (g : Regs) (v : Byte) (w : Word)

theorem withReg_pc (x : R8) : (withReg x v g).pc = g.pc := by cases x <;> rfl
theorem withReg_flags (x : R8) : (withReg x v g).flags = g.flags := by cases x <;> rfl
theorem withPair_pc (p : R16) : (withPair p w g).pc = g.pc := by cases p <;> rfl
theorem withPair_flags (p : R16) : (withPair p w g).flags = g.flags := by cases p <;> rfl
theorem withStackPair_pc (q : R16P) : (withStackPair q w g).pc = g.pc := by cases q <;> rfl

theorem withStackPair_flags {q : R16P} (h : q ≠ .af) : (withStackPair q w g).flags = g.flags := by
  cases q
  case af => exact absurd rfl h
  all_goals rfl

theorem aluEffect_pc (op : AluOp) : (aluEffect op v g).pc = g.pc := by cases op <;> rfl

end Regs

/-! ### The opcode decides -/

/-- Apart from the CB table, the cost does not look at the byte after the opcode. -/
theorem expectedTicks_second {op : Byte} (h : (op == 0xCB) = false) (x y : Byte) (s : State) :
    expectedTicks op x s = expectedTicks op y s := by
  have hne : op ≠ 0xCB := by simpa using h
  simp only [expectedTicks, if_neg hne]

theorem writesFlags_second {op : Byte} (h : (op == 0xCB) = false) (x y : Byte) : writesFlags op x = writesFlags op y := by
  have hne : op ≠ 0xCB := by simpa using h
  simp only [writesFlags, if_neg hne]

section Opcode
variable {i j : Instr} {s : State} {len ticks : Nat} {l : List (Word × Byte)} {op : Byte}

/-- The sheet of an instruction whose opcode is known. -/
theorem sheet_of_opcode (ho : opcode i = op) (hcb : (op == 0xCB) = false) (hlen : (encode s.cfg.stopLength i).length = len)
    (hticks : expectedTicks op 0 s = ticks) (hl : storesOf i s = l) : Sheet i s len ticks l := by
  subst ho
  exact ⟨hlen, (expectedTicks_second hcb _ _ s).trans hticks, hl⟩

/-- Whether an instruction whose opcode is known writes flags. -/
theorem writesFlags_of_opcode (ho : opcode i = op) (hcb : (op == 0xCB) = false) (h : writesFlags op 0 = true) :
    writesFlags (opcode i) (secondByte i) = true := by
  subst ho
  exact (writesFlags_second hcb _ _).trans h

end Opcode

/-! ### Opcodes do not depend on the immediate -/

theorem opcode_ldN8Row (x : R8) (n : Byte) : opcode (ldN8Row x n) = opcode (ldN8Row x 0) := by cases x <;> rfl
theorem opcode_aluN8Row (op : AluOp) (n : Byte) : opcode (aluN8Row op n) = opcode (aluN8Row op 0) := by cases op <;> rfl
theorem opcode_ldN16Row (p : R16) (w : Word) : opcode (ldN16Row p w) = opcode (ldN16Row p 0) := by cases p <;> rfl
theorem opcode_jpRow (cc : Cond) (aa : Word) : opcode (jpRow cc aa) = opcode (jpRow cc 0) := by cases cc <;> rfl
theorem opcode_jrRow (cc : Cond) (e : Byte) : opcode (jrRow cc e) = opcode (jrRow cc 0) := by cases cc <;> rfl
theorem opcode_callRow (cc : Cond) (aa : Word) : opcode (callRow cc aa) = opcode (callRow cc 0) := by cases cc <;> rfl

/-! ### The rows that operands select -/

section Rows
variable (s : State)

theorem sheet_ldRow (dst src : R8) (h : isIndirect dst = false ∨ isIndirect src = false) :
    Sheet (ldRow dst src) s 1 (if isIndirect dst || isIndirect src then 8 else 4)
      (if isIndirect dst then storeAtHl (regOf src s.regs) s else []) := by
  cases dst <;> cases src
  case hlInd.hlInd => exact absurd h (by decide)
  all_goals exact ⟨rfl, rfl, rfl⟩

theorem halt_done : Done .halt s { onward 1 4 s.regs s with halted := true } :=
  ⟨⟨s, .none s, sameMemory_of_control _ _ _ rfl rfl _ _⟩, fun h => absurd rfl h, fun _ => ⟨rfl, rfl⟩, fun _ _ _ => rfl,
    fun _ => rfl, fun _ => rfl, rfl⟩

theorem completes_ldRow (dst src : R8) : Completes (ldRow dst src) s := by
  obtain rfl | hd := eq_or_ne dst .hlInd <;> obtain rfl | hs := eq_or_ne src .hlInd
  · exact ⟨_, rfl, halt_done s⟩
  · have hsheet := sheet_ldRow s .hlInd src (.inr (isIndirect_eq_false hs))
    exact completes_onward hsheet (.none s) (exec_ld_to_hl s hs) rfl (.inl rfl)
  · have hsheet := sheet_ldRow s dst .hlInd (.inl (isIndirect_eq_false hd))
    rw [isIndirect_eq_false hd] at hsheet
    exact completes_onward hsheet (reads_readHl s) (exec_ld_from_hl s hd) (withReg_pc ..) (.inl (withReg_flags ..))
  · have hsheet := sheet_ldRow s dst src (.inl (isIndirect_eq_false hd))
    rw [isIndirect_eq_false hd, isIndirect_eq_false hs] at hsheet
    exact completes_onward hsheet (.none s) (exec_ld_register s hd hs) (withReg_pc ..) (.inl (withReg_flags ..))

theorem sheet_ldN8Row (x : R8) (n : Byte) :
    Sheet (ldN8Row x n) s 2 (if isIndirect x then 12 else 8) (if isIndirect x then storeAtHl n s else []) := by
  cases x <;> exact sheet_of_opcode (opcode_ldN8Row ..) rfl rfl rfl rfl

theorem completes_ldN8Row (x : R8) (n : Byte) : Completes (ldN8Row x n) s := by
  have hsheet := sheet_ldN8Row s x n
  obtain rfl | h := eq_or_ne x .hlInd
  · exact completes_onward hsheet (.none s) (exec_ldIndHL_N8 n s) rfl (.inl rfl)
  · rw [isIndirect_eq_false h] at hsheet
    exact completes_onward hsheet (.none s) ((exec_ldN8Row x n s).trans (loadImm8_register h n s)) (withReg_pc ..)
      (.inl (withReg_flags ..))

theorem sheet_aluRow (op : AluOp) (x : R8) : Sheet (aluRow op x) s 1 (if isIndirect x then 8 else 4) [] := by
  cases op <;> cases x <;> exact ⟨rfl, rfl, rfl⟩

theorem aluRow_writesFlags (op : AluOp) (x : R8) : writesFlags (opcode (aluRow op x)) (secondByte (aluRow op x)) = true := by
  cases op <;> cases x <;> rfl

theorem completes_aluRow (op : AluOp) (x : R8) : Completes (aluRow op x) s := by
  have hsheet := sheet_aluRow s op x
  obtain rfl | h := eq_or_ne x .hlInd
  · exact completes_onward hsheet (reads_readHl s) ((exec_aluRow op _ s).trans (aluR8_hlInd s op)) (aluEffect_pc ..)
      (.inr (aluRow_writesFlags ..))
  · rw [isIndirect_eq_false h] at hsheet
    exact completes_onward hsheet (.none s) ((exec_aluRow op x s).trans (aluR8_register s h op)) (aluEffect_pc ..)
      (.inr (aluRow_writesFlags ..))

theorem completes_aluN8Row (op : AluOp) (n : Byte) : Completes (aluN8Row op n) s := by
  refine completes_onward (l := []) ?sheet (.none s) ((exec_aluN8Row op n s).trans (aluImm_eq_onward n s op)) (aluEffect_pc ..) (.inr ?flags)
  case sheet => cases op <;> exact sheet_of_opcode (opcode_aluN8Row ..) rfl rfl rfl rfl
  case flags => cases op <;> exact writesFlags_of_opcode (opcode_aluN8Row ..) rfl rfl

theorem sheet_incRow (x : R8) :
    Sheet (incRow x) s 1 (if isIndirect x then 12 else 4) (if isIndirect x then storeAtHl (atHl s + 1) s else []) := by
  cases x <;> exact ⟨rfl, rfl, rfl⟩

theorem incRow_writesFlags (x : R8) : writesFlags (opcode (incRow x)) (secondByte (incRow x)) = true := by cases x <;> rfl

theorem completes_incRow (x : R8) : Completes (incRow x) s := by
  have hsheet := sheet_incRow s x
  obtain rfl | h := eq_or_ne x .hlInd
  · exact completes_onward hsheet (reads_readHl s) ((exec_incRow _ s).trans (incR8_hlInd s)) rfl (.inr rfl)
  · rw [isIndirect_eq_false h] at hsheet
    exact completes_onward hsheet (.none s) ((exec_incRow x s).trans (incR8_register s h)) (withReg_pc ..) (.inr (incRow_writesFlags x))

theorem sheet_decRow (x : R8) :
    Sheet (decRow x) s 1 (if isIndirect x then 12 else 4) (if isIndirect x then storeAtHl (atHl s - 1) s else []) := by
  cases x <;> exact ⟨rfl, rfl, rfl⟩

theorem decRow_writesFlags (x : R8) : writesFlags (opcode (decRow x)) (secondByte (decRow x)) = true := by cases x <;> rfl

theorem completes_decRow (x : R8) : Completes (decRow x) s := by
  have hsheet := sheet_decRow s x
  obtain rfl | h := eq_or_ne x .hlInd
  · exact completes_onward hsheet (reads_readHl s) ((exec_decRow _ s).trans (decR8_hlInd s)) rfl (.inr rfl)
  · rw [isIndirect_eq_false h] at hsheet
    exact completes_onward hsheet (.none s) ((exec_decRow x s).trans (decR8_register s h)) (withReg_pc ..) (.inr (decRow_writesFlags x))

theorem completes_ldN16Row (p : R16) (w : Word) : Completes (ldN16Row p w) s := by
  refine completes_onward (l := []) ?_ (.none s) ((exec_ldN16Row p w s).trans (loadImm16_eq_onward w s p)) (withPair_pc ..)
    (.inl (withPair_flags ..))
  cases p <;> exact sheet_of_opcode (opcode_ldN16Row ..) rfl rfl rfl rfl

theorem completes_addHLRow (p : R16) : Completes (addHLRow p) s := by
  refine completes_onward (l := []) ?sheet (.none s) ((exec_addHLRow p s).trans (addHl_eq_onward p s)) rfl (.inr ?flags)
  case sheet => cases p <;> exact ⟨rfl, rfl, rfl⟩
  case flags => cases p <;> rfl

theorem completes_incPairRow (p : R16) : Completes (incPairRow p) s := by
  refine completes_onward (l := []) ?_ (.none s) ((exec_incPairRow p s).trans (incPair_eq_onward p s)) (withPair_pc ..)
    (.inl (withPair_flags ..))
  cases p <;> exact ⟨rfl, rfl, rfl⟩

theorem completes_decPairRow (p : R16) : Completes (decPairRow p) s := by
  refine completes_onward (l := []) ?_ (.none s) ((exec_decPairRow p s).trans (decPair_eq_onward p s)) (withPair_pc ..)
    (.inl (withPair_flags ..))
  cases p <;> exact ⟨rfl, rfl, rfl⟩

theorem completes_pushRow (q : R16P) : Completes (pushRow q) s := by
  refine completes_onward (l := storesOfPush (stackPairOf q s.regs) s) ?_ (.none s) ((exec_pushRow q s).trans (pushPair_eq_onward s q)) rfl
    (.inl rfl)
  cases q <;> exact ⟨rfl, rfl, rfl⟩

theorem completes_popRow (q : R16P) : Completes (popRow q) s := by
  refine completes_onward (l := []) ?sheet (reads_poppedState s) ((exec_popRow q s).trans (popPair_eq_onward s q))
    (withStackPair_pc ..) ?flags
  case sheet => cases q <;> exact ⟨rfl, rfl, rfl⟩
  case flags =>
    obtain rfl | h := eq_or_ne q .af
    · exact .inr rfl
    · exact .inl (withStackPair_flags _ _ h)

/-! ### Conditional control flow -/

theorem setsPc_of_opcode {i : Instr} {op : Byte} (ho : opcode i = op) (h : setsPc op = true) : setsPc (opcode i) = true := ho ▸ h

theorem completes_jpRow (cc : Cond) (aa : Word) : Completes (jpRow cc aa) s := by
  have hsheet : Sheet (jpRow cc aa) s 3 (charge s.cfg (holds cc s.regs.flags) 16 12) [] := by
    cases cc <;> exact sheet_of_opcode (opcode_jpRow ..) rfl rfl rfl rfl
  have hset : setsPc (opcode (jpRow cc aa)) = true := by cases cc <;> exact setsPc_of_opcode (opcode_jpRow ..) rfl
  have hx := (exec_jpRow cc aa s).trans (jumpIf_eq s cc aa)
  cases h : holds cc s.regs.flags <;> simp only [h, if_true, Bool.false_eq_true, if_false] at hx hsheet
  · exact completes_onward hsheet (.none s) hx rfl (.inl rfl)
  · exact completes_landing hsheet (.none s) hx hset rfl

theorem completes_jrRow (cc : Cond) (e : Byte) : Completes (jrRow cc e) s := by
  have hsheet : Sheet (jrRow cc e) s 2 (charge s.cfg (holds cc s.regs.flags) 12 8) [] := by
    cases cc <;> exact sheet_of_opcode (opcode_jrRow ..) rfl rfl rfl rfl
  have hset : setsPc (opcode (jrRow cc e)) = true := by cases cc <;> exact setsPc_of_opcode (opcode_jrRow ..) rfl
  have hx := (exec_jrRow cc e s).trans (jumpRelativeIf_eq s cc e)
  cases h : holds cc s.regs.flags <;> simp only [h, if_true, Bool.false_eq_true, if_false] at hx hsheet
  · exact completes_onward hsheet (.none s) hx rfl (.inl rfl)
  · exact completes_landing hsheet (.none s) hx hset rfl

theorem completes_callRow (cc : Cond) (aa : Word) : Completes (callRow cc aa) s := by
  have hsheet : Sheet (callRow cc aa) s 3 (charge s.cfg (holds cc s.regs.flags) 24 12)
      (if holds cc s.regs.flags then storesOfPush (s.regs.pc + 3) s else []) := by
    cases cc <;> exact sheet_of_opcode (opcode_callRow ..) rfl rfl rfl rfl
  have hset : setsPc (opcode (callRow cc aa)) = true := by cases cc <;> exact setsPc_of_opcode (opcode_callRow ..) rfl
  have hx := (exec_callRow cc aa s).trans (callIf_eq s cc aa)
  cases h : holds cc s.regs.flags <;> simp only [h, if_true, Bool.false_eq_true, if_false] at hx hsheet
  · exact completes_onward hsheet (.none s) hx rfl (.inl rfl)
  · exact completes_landing hsheet (.none s) hx hset rfl

theorem completes_retRow (cc : Cond) : Completes (retRow cc) s := by
  have hsheet : Sheet (retRow cc) s 1 (charge s.cfg (holds cc s.regs.flags) 20 8) [] := by cases cc <;> exact ⟨rfl, rfl, rfl⟩
  have hset : setsPc (opcode (retRow cc)) = true := by cases cc <;> rfl
  have hx := (exec_retRow cc s).trans (returnIf_eq s cc)
  cases h : holds cc s.regs.flags <;> simp only [h, if_true, Bool.false_eq_true, if_false] at hx hsheet
  · exact completes_onward hsheet (.none s) hx rfl (.inl rfl)
  · exact completes_landing hsheet (reads_poppedState s) hx hset rfl

theorem completes_rstRow (y : Fin 8) : Completes (rstRow y) s := by
  have hsheet : Sheet (rstRow y) s 1 16 (storesOfPush (s.regs.pc + 1) s) := by fin_cases y <;> exact ⟨rfl, rfl, rfl⟩
  have hset : setsPc (opcode (rstRow y)) = true := by fin_cases y <;> rfl
  have hx := (exec_rstRow y s).trans (congrArg Host.Outcome.next (jumpTo_push16 s _ _ 16))
  exact completes_landing hsheet (.none s) hx hset rfl

/-! ### The CB table -/

theorem sheet_rotRow (op : RotOp) (x : R8) :
    Sheet (rotRow op x) s 2 (if isIndirect x then 16 else 8) (if isIndirect x then storeOfShift op s else []) := by
  cases op <;> cases x <;> exact ⟨rfl, rfl, rfl⟩

theorem rotRow_writesFlags (op : RotOp) (x : R8) : writesFlags (opcode (rotRow op x)) (secondByte (rotRow op x)) = true := by
  cases op <;> cases x <;> rfl

theorem completes_rotRow (op : RotOp) (x : R8) : Completes (rotRow op x) s := by
  have hsheet := sheet_rotRow s op x
  obtain rfl | h := eq_or_ne x .hlInd
  · exact completes_onward hsheet (reads_readHl s) ((exec_rotRow op _ s).trans (rotR8_hlInd op s)) rfl (.inr (rotRow_writesFlags ..))
  · rw [isIndirect_eq_false h] at hsheet
    exact completes_onward hsheet (.none s) ((exec_rotRow op x s).trans (rotR8_register h op s)) (withReg_pc ..)
      (.inr (rotRow_writesFlags ..))

theorem sheet_bitRow (b : Fin 8) (x : R8) : Sheet (bitRow b x) s 2 (if isIndirect x then 12 else 8) [] := by
  fin_cases b <;> cases x <;> exact ⟨rfl, rfl, rfl⟩

theorem bitRow_writesFlags (b : Fin 8) (x : R8) : writesFlags (opcode (bitRow b x)) (secondByte (bitRow b x)) = true := by
  fin_cases b <;> cases x <;> rfl

theorem completes_bitRow (b : Fin 8) (x : R8) : Completes (bitRow b x) s := by
  have hsheet := sheet_bitRow s b x
  obtain rfl | h := eq_or_ne x .hlInd
  · exact completes_onward hsheet (reads_readHl s) ((exec_bitRow b _ s).trans (testBit_hlInd b s)) rfl (.inr (bitRow_writesFlags ..))
  · rw [isIndirect_eq_false h] at hsheet
    exact completes_onward hsheet (.none s) ((exec_bitRow b x s).trans (testBit_register h b s)) rfl (.inr (bitRow_writesFlags ..))

theorem sheet_resRow (b : Fin 8) (x : R8) :
    Sheet (resRow b x) s 2 (if isIndirect x then 16 else 8) (if isIndirect x then storeOfBit b false s else []) := by
  fin_cases b <;> cases x <;> exact ⟨rfl, rfl, rfl⟩

theorem completes_resRow (b : Fin 8) (x : R8) : Completes (resRow b x) s := by
  have hsheet := sheet_resRow s b x
  obtain rfl | h := eq_or_ne x .hlInd
  · exact completes_onward hsheet (reads_readHl s) ((exec_resRow b _ s).trans (resBit_hlInd s b)) rfl (.inl rfl)
  · rw [isIndirect_eq_false h] at hsheet
    exact completes_onward hsheet (.none s) ((exec_resRow b x s).trans (resBit_register s h b)) (withReg_pc ..) (.inl (withReg_flags ..))

theorem sheet_setRow (b : Fin 8) (x : R8) :
    Sheet (setRow b x) s 2 (if isIndirect x then 16 else 8) (if isIndirect x then storeOfBit b true s else []) := by
  fin_cases b <;> cases x <;> exact ⟨rfl, rfl, rfl⟩

theorem completes_setRow (b : Fin 8) (x : R8) : Completes (setRow b x) s := by
  have hsheet := sheet_setRow s b x
  obtain rfl | h := eq_or_ne x .hlInd
  · exact completes_onward hsheet (reads_readHl s) ((exec_setRow b _ s).trans (setBitR8_hlInd s b)) rfl (.inl rfl)
  · rw [isIndirect_eq_false h] at hsheet
    exact completes_onward hsheet (.none s) ((exec_setRow b x s).trans (setBitR8_register s h b)) (withReg_pc ..) (.inl (withReg_flags ..))

/-- Every row of the CB table completes. -/
theorem completes_cbRow (cb : Byte) : Completes (cbRow cb) s := by
  unfold cbRow
  generalize (fieldX cb).toNat = k
  rcases k with _ | _ | _ | k
  · exact completes_rotRow s _ _
  · exact completes_bitRow s _ _
  · exact completes_resRow s _ _
  · exact completes_setRow s _ _

end Rows

end Sys2Proof.Proofs
end

section
/-! PROOFS. The instructions that no operand selects, the outcome of every instruction, and the rules over all instructions (R103, R241, R311,
R313, R314). -/

namespace Sys2Proof.Proofs

open Sys2Proof.Machine Sys2Proof.Claims Sys2Proof.Laws

section Single
variable {i : Instr} {len ticks : Nat} {addr : Regs → Word} (s : State)

theorem completes_of_loadsA (h : LoadsA i len ticks addr) (hs : Sheet i s len ticks []) : Completes i s :=
  completes_onward hs (.read _ (.none s)) (h s) rfl (.inl rfl)

theorem completes_of_storesA (h : StoresA i len ticks addr) (hs : Sheet i s len ticks (storeOfA (addr s.regs) s)) : Completes i s :=
  completes_onward hs (.none s) (h s) rfl (.inl rfl)

theorem completes_loadAStep {w : Word} (hx : exec i s = loadAStep w s) (hs : Sheet i s 1 8 []) : Completes i s :=
  completes_onward hs (reads_readHl s) (hx.trans (loadAStep_eq_onward w s)) (withPair_pc ..) (.inl (withPair_flags ..))

theorem completes_storeAStep {w : Word} (hx : exec i s = storeAStep w s) (hs : Sheet i s 1 8 (storeAtHl s.regs.a s)) : Completes i s :=
  completes_onward hs (.none s) (hx.trans (storeAStep_eq_onward w s)) (withPair_pc ..) (.inl (withPair_flags ..))

theorem completes_rotA {op : RotOp} (hx : exec i s = rotA op s) (hs : Sheet i s 1 4 [])
    (hflags : writesFlags (opcode i) (secondByte i) = true) : Completes i s :=
  completes_onward hs (.none s) (hx.trans (rotA_eq_onward s op)) rfl (.inr hflags)

theorem completes_nop : Completes .nop s := completes_onward (l := []) ⟨rfl, rfl, rfl⟩ (.none s) rfl (g := s.regs) rfl (.inl rfl)

theorem completes_stop : Completes .stop s := by
  refine ⟨_, exec_stop s, ⟨s, .none s, sameMemory_of_control _ _ _ rfl rfl _ _⟩, fun _ h => absurd rfl h,
    fun _ => ⟨rfl, rfl⟩, fun _ _ _ => rfl, fun _ => rfl, fun _ => ?pc, rfl⟩
  case pc =>
    show s.regs.pc + _ = _
    cases s.cfg.stopLength <;> rfl

theorem completes_ldIndA16_SP (aa : Word) : Completes (.ldIndA16_SP aa) s :=
  completes_onward (l := [(aa, s.regs.sp.extractLsb' 0 8), (aa + 1, s.regs.sp.extractLsb' 8 8)])
    (sheet_of_opcode (op := 0x08) rfl rfl rfl rfl rfl) (.none s) (exec_ldIndA16_SP aa s) rfl (.inl rfl)

theorem completes_jrE8 (e : Byte) : Completes (.jrE8 e) s :=
  completes_landing (l := []) (g := s.regs) (sheet_of_opcode (op := 0x18) rfl rfl rfl rfl rfl) (.none s) rfl
    (setsPc_of_opcode (op := 0x18) rfl rfl) rfl

theorem completes_jpA16 (aa : Word) : Completes (.jpA16 aa) s :=
  completes_landing (l := []) (g := s.regs) (sheet_of_opcode (op := 0xC3) rfl rfl rfl rfl rfl) (.none s) rfl
    (setsPc_of_opcode (op := 0xC3) rfl rfl) rfl

theorem completes_jpHL : Completes .jpHL s :=
  completes_landing (l := []) (g := s.regs) ⟨rfl, rfl, rfl⟩ (.none s) rfl rfl rfl

theorem completes_callA16 (aa : Word) : Completes (.callA16 aa) s :=
  completes_landing (l := storesOfPush (s.regs.pc + 3) s) (sheet_of_opcode (op := 0xCD) rfl rfl rfl rfl rfl) (.none s)
    (congrArg Host.Outcome.next (jumpTo_push16 s aa _ 24)) (setsPc_of_opcode (op := 0xCD) rfl rfl) rfl

theorem completes_ret : Completes .ret s :=
  completes_landing (l := []) ⟨rfl, rfl, rfl⟩ (reads_poppedState s) (congrArg Host.Outcome.next (jumpTo_popAfter s (popVal s) 16)) rfl rfl

theorem completes_reti : Completes .reti s := by
  refine ⟨_, exec_reti s, ⟨poppedState s, reads_poppedState s, ?memory⟩, fun _ _ => ?halted, fun h => absurd rfl h,
    fun _ _ h => absurd rfl h, fun _ => rfl, fun h => absurd h (by decide), rfl⟩
  case memory =>
    have hirq := poppedState_irq s
    exact sameMemory_of_control (poppedState s) _ _ (by rw [hirq]) (by rw [hirq]) _ _
  case halted =>
    show (poppedState s).halted = s.halted
    rw [poppedState, afterRead_halted, afterRead_halted]

theorem completes_di : Completes .di s :=
  ⟨_, rfl, ⟨s, .none s, sameMemory_of_control s _ { s.irq with imeRequest := some false } rfl rfl _ _⟩, fun _ _ => rfl,
    fun _ => ⟨rfl, rfl⟩, fun h => absurd rfl h, fun _ => rfl, fun _ => rfl, rfl⟩

theorem completes_ei : Completes .ei s :=
  ⟨_, rfl, ⟨s, .none s, sameMemory_of_control s _ { s.irq with imeRequest := some true } rfl rfl _ _⟩, fun _ _ => rfl,
    fun _ => ⟨rfl, rfl⟩, fun _ h => absurd rfl h, fun _ => rfl, fun _ => rfl, rfl⟩

theorem completes_cpl : Completes .cpl s := completes_onward (l := []) ⟨rfl, rfl, rfl⟩ (.none s) (exec_cpl s) rfl (.inr rfl)

theorem completes_scf : Completes .scf s := completes_onward (l := []) ⟨rfl, rfl, rfl⟩ (.none s) (exec_scf s) rfl (.inr rfl)

theorem completes_ccf : Completes .ccf s := completes_onward (l := []) ⟨rfl, rfl, rfl⟩ (.none s) (exec_ccf s) rfl (.inr rfl)

theorem completes_addSP_E8 (e : Byte) : Completes (.addSP_E8 e) s := by
  obtain ⟨hsp, -⟩ := stackPointerOffsets e s
  exact completes_onward (l := []) (sheet_of_opcode (op := 0xE8) rfl rfl rfl rfl rfl) (.none s) hsp rfl
    (.inr (writesFlags_of_opcode (op := 0xE8) rfl rfl rfl))

theorem completes_ldHL_SPE8 (e : Byte) : Completes (.ldHL_SPE8 e) s := by
  obtain ⟨-, hhl⟩ := stackPointerOffsets e s
  exact completes_onward (l := []) (sheet_of_opcode (op := 0xF8) rfl rfl rfl rfl rfl) (.none s) hhl rfl
    (.inr (writesFlags_of_opcode (op := 0xF8) rfl rfl rfl))

theorem completes_ldSP_HL : Completes .ldSP_HL s := by
  obtain ⟨-, -, hsp⟩ := wordLoads
  exact completes_onward (l := []) ⟨rfl, rfl, rfl⟩ (.none s) (hsp s) rfl (.inl rfl)

end Single

/-! ### The outcome of every instruction -/

/-- What an instruction can answer: a next state in which it has done what the rules say, or one of two faults under their policies. -/
def Answers (i : Instr) (s : State) : Prop :=
  Completes i s
    ∨ (exec i s = .fault .daaTableMiss ∧ s.cfg.daaMissPolicy = .fault)
    ∨ ∃ op : Byte, op ∈ [(0xD3 : Byte), 0xDB, 0xDD, 0xE3, 0xE4, 0xEB, 0xEC, 0xED, 0xF4, 0xFC, 0xFD]
        ∧ exec i s = .fault (.invalidOpcode op) ∧ s.cfg.invalidOpcodePolicy = .fault

/-- DAA completes by a row or by the hardware's algorithm, or faults where its policy says so. -/
theorem daa_answers (s : State) : Answers .daa s := by
  have finish : ∀ x : Byte × Flags, exec .daa s = daaFinish x s → Completes .daa s := fun x hx =>
    completes_onward (l := []) ⟨rfl, rfl, rfl⟩ (.none s) (hx.trans (daaFinish_eq_onward x s)) rfl (.inr rfl)
  have hx : exec .daa s = execDaa s := rfl
  unfold execDaa at hx
  split at hx
  · exact .inl (finish _ hx)
  · split at hx
    · exact .inr (.inl ⟨hx, ‹_›⟩)
    · exact .inl (finish _ hx)

theorem sheet_undefined (s : State) : ∀ u ∈ undefinedPairs, Sheet u.2 s 1 s.cfg.undefTicks [] := by
  simp only [undefinedPairs, List.forall_mem_cons, List.not_mem_nil, false_implies, implies_true, and_true]
  exact ⟨⟨rfl, rfl, rfl⟩, ⟨rfl, rfl, rfl⟩, ⟨rfl, rfl, rfl⟩, ⟨rfl, rfl, rfl⟩, ⟨rfl, rfl, rfl⟩, ⟨rfl, rfl, rfl⟩, ⟨rfl, rfl, rfl⟩,
    ⟨rfl, rfl, rfl⟩, ⟨rfl, rfl, rfl⟩, ⟨rfl, rfl, rfl⟩, ⟨rfl, rfl, rfl⟩⟩

/-- An undefined opcode goes on, or faults where its policy says so. -/
theorem undefined_answers (s : State) (u : Byte × Instr) (hu : u ∈ undefinedPairs) : Answers u.2 s := by
  obtain ⟨-, hexec⟩ := undefined_row_and_exec u hu
  cases hp : s.cfg.invalidOpcodePolicy with
  | nop => exact .inl (completes_onward (sheet_undefined s u hu) (.none s) ((hexec s).trans (undefinedOp_nop s u.1 hp)) rfl (.inl rfl))
  | fault => exact .inr (.inr ⟨u.1, List.mem_map_of_mem (f := Prod.fst) hu, (hexec s).trans (undefinedOp_fault s u.1 hp), hp⟩)

/-- Every well-formed instruction answers, in every state. -/
theorem answers {i : Instr} (hwf : i.wellFormed = true) (s : State) : Answers i s := by
  obtain ⟨ldaBC, ldaDE, ldaA16, ldhA8, ldaC⟩ := accumulatorLoads
  obtain ⟨staBC, staDE, staA16, sthA8, staC⟩ := accumulatorStores
  cases shape_of i with
  | ld dst src => exact .inl (completes_ldRow s dst src)
  | ldN8 r n => exact .inl (completes_ldN8Row s r n)
  | alu op r => exact .inl (completes_aluRow s op r)
  | aluN8 op n => exact .inl (completes_aluN8Row s op n)
  | inc r => exact .inl (completes_incRow s r)
  | dec r => exact .inl (completes_decRow s r)
  | ldN16 p nn => exact .inl (completes_ldN16Row s p nn)
  | addHl p => exact .inl (completes_addHLRow s p)
  | incPair p => exact .inl (completes_incPairRow s p)
  | decPair p => exact .inl (completes_decPairRow s p)
  | push q => exact .inl (completes_pushRow s q)
  | pop q => exact .inl (completes_popRow s q)
  | jp cc aa => exact .inl (completes_jpRow s cc aa)
  | jr cc e => exact .inl (completes_jrRow s cc e)
  | call cc aa => exact .inl (completes_callRow s cc aa)
  | ret cc => exact .inl (completes_retRow s cc)
  | rst y => exact .inl (completes_rstRow s y)
  | rot op x => exact .inl (completes_rotRow s op x)
  | bit b x => exact .inl (completes_bitRow s b x)
  | res b x => exact .inl (completes_resRow s b x)
  | set b x => exact .inl (completes_setRow s b x)
  | s_nop => exact .inl (completes_nop s)
  | s_ldIndBC_A => exact .inl (completes_of_storesA s staBC ⟨rfl, rfl, rfl⟩)
  | s_ldIndDE_A => exact .inl (completes_of_storesA s staDE ⟨rfl, rfl, rfl⟩)
  | s_ldIndA16_A aa => exact .inl (completes_of_storesA s (staA16 aa) (sheet_of_opcode (op := 0xEA) rfl rfl rfl rfl rfl))
  | s_ldhIndA8_A a => exact .inl (completes_of_storesA s (sthA8 a) (sheet_of_opcode (op := 0xE0) rfl rfl rfl rfl rfl))
  | s_ldIndC_A => exact .inl (completes_of_storesA s staC ⟨rfl, rfl, rfl⟩)
  | s_ldA_IndBC => exact .inl (completes_of_loadsA s ldaBC ⟨rfl, rfl, rfl⟩)
  | s_ldA_IndDE => exact .inl (completes_of_loadsA s ldaDE ⟨rfl, rfl, rfl⟩)
  | s_ldA_IndA16 aa => exact .inl (completes_of_loadsA s (ldaA16 aa) (sheet_of_opcode (op := 0xFA) rfl rfl rfl rfl rfl))
  | s_ldhA_IndA8 a => exact .inl (completes_of_loadsA s (ldhA8 a) (sheet_of_opcode (op := 0xF0) rfl rfl rfl rfl rfl))
  | s_ldA_IndC => exact .inl (completes_of_loadsA s ldaC ⟨rfl, rfl, rfl⟩)
  | s_ldIndHLInc_A => exact .inl (completes_storeAStep s (w := 1) rfl ⟨rfl, rfl, rfl⟩)
  | s_ldIndHLDec_A => exact .inl (completes_storeAStep s (w := -1) rfl ⟨rfl, rfl, rfl⟩)
  | s_ldA_IndHLInc => exact .inl (completes_loadAStep s (w := 1) rfl ⟨rfl, rfl, rfl⟩)
  | s_ldA_IndHLDec => exact .inl (completes_loadAStep s (w := -1) rfl ⟨rfl, rfl, rfl⟩)
  | s_rlca => exact .inl (completes_rotA s (op := .rlc) rfl ⟨rfl, rfl, rfl⟩ rfl)
  | s_rrca => exact .inl (completes_rotA s (op := .rrc) rfl ⟨rfl, rfl, rfl⟩ rfl)
  | s_rla => exact .inl (completes_rotA s (op := .rl) rfl ⟨rfl, rfl, rfl⟩ rfl)
  | s_rra => exact .inl (completes_rotA s (op := .rr) rfl ⟨rfl, rfl, rfl⟩ rfl)
  | s_ldIndA16_SP aa => exact .inl (completes_ldIndA16_SP s aa)
  | s_stop => exact .inl (completes_stop s)
  | s_jrE8 e => exact .inl (completes_jrE8 s e)
  | s_daa => exact daa_answers s
  | s_cpl => exact .inl (completes_cpl s)
  | s_scf => exact .inl (completes_scf s)
  | s_ccf => exact .inl (completes_ccf s)
  | s_jpA16 aa => exact .inl (completes_jpA16 s aa)
  | s_ret => exact .inl (completes_ret s)
  | s_prefixCb cb => exact absurd hwf (by simp [Instr.wellFormed])
  | s_callA16 aa => exact .inl (completes_callA16 s aa)
  | s_reti => exact .inl (completes_reti s)
  | s_addSP_E8 e => exact .inl (completes_addSP_E8 s e)
  | s_jpHL => exact .inl (completes_jpHL s)
  | s_di => exact .inl (completes_di s)
  | s_ldHL_SPE8 e => exact .inl (completes_ldHL_SPE8 s e)
  | s_ldSP_HL => exact .inl (completes_ldSP_HL s)
  | s_ei => exact .inl (completes_ei s)
  | s_undefinedD3 => exact undefined_answers s (0xD3, _) (by simp [undefinedPairs])
  | s_undefinedDB => exact undefined_answers s (0xDB, _) (by simp [undefinedPairs])
  | s_undefinedDD => exact undefined_answers s (0xDD, _) (by simp [undefinedPairs])
  | s_undefinedE3 => exact undefined_answers s (0xE3, _) (by simp [undefinedPairs])
  | s_undefinedE4 => exact undefined_answers s (0xE4, _) (by simp [undefinedPairs])
  | s_undefinedEB => exact undefined_answers s (0xEB, _) (by simp [undefinedPairs])
  | s_undefinedEC => exact undefined_answers s (0xEC, _) (by simp [undefinedPairs])
  | s_undefinedED => exact undefined_answers s (0xED, _) (by simp [undefinedPairs])
  | s_undefinedF4 => exact undefined_answers s (0xF4, _) (by simp [undefinedPairs])
  | s_undefinedFC => exact undefined_answers s (0xFC, _) (by simp [undefinedPairs])
  | s_undefinedFD => exact undefined_answers s (0xFD, _) (by simp [undefinedPairs])

theorem done_of_completes {i : Instr} {s t : State} (h : Completes i s) (hx : exec i s = .next t) : Done i s t := by
  obtain ⟨u, hu, hd⟩ := h
  rw [hu, Host.Outcome.next.injEq] at hx
  exact hx ▸ hd

/-- A well-formed instruction that answers a next state has done what the rules say. -/
theorem done_of_next {i : Instr} (hwf : i.wellFormed = true) {s t : State} (hx : exec i s = .next t) : Done i s t := by
  obtain h | ⟨h, -⟩ | ⟨op, -, h, -⟩ := answers hwf s
  · exact done_of_completes h hx
  · rw [h] at hx
    cases hx
  · rw [h] at hx
    cases hx

end Sys2Proof.Proofs
end

section
/-! PROOFS. The rules over all instructions (R103, R241, R311, R313, R314, R400 to R650), from what each of them does. -/

namespace Sys2Proof.Proofs

open Sys2Proof.Machine Sys2Proof.Claims

/-! ### What reads and stores keep -/

/-- The parts of a state that no read changes. -/
structure ReadFrame (s t : State) : Prop where
  cfg : t.cfg = s.cfg
  irq : t.irq = s.irq
  halted : t.halted = s.halted
  fault : t.fault = s.fault
  timer : t.timer = s.timer
  disp : t.disp = s.disp
  dma : t.dma = s.dma
  bootOverlay : t.bootOverlay = s.bootOverlay
  mem : t.mem = s.mem
  image : t.cart.image = s.cart.image

theorem ReadFrame.afterRead {s t : State} (h : ReadFrame s t) (a : Word) : ReadFrame s (afterRead a t) :=
  ⟨by simp [h.cfg], by simp [h.irq], by simp [h.halted], by simp [h.fault], by simp [h.timer], by simp [h.disp], by simp [h.dma],
    by simp [h.bootOverlay], by simp [h.mem], by simp [h.image]⟩

theorem Reads.frame {s t : State} (h : Reads s t) : ReadFrame s t :=
  h.keeps (ReadFrame s) (fun a _ hu => hu.afterRead a) ⟨rfl, rfl, rfl, rfl, rfl, rfl, rfl, rfl, rfl, rfl⟩

/-- A named cartridge whose reads store nothing keeps its state. -/
theorem Reads.cart_of_named {s t : State} (h : Reads s t) {d : Device} (hd : s.cfg.cartridge = .named d) (hr : d.onRead = []) :
    t.cart = s.cart := by
  induction h with
  | none => rfl
  | read a hr' ih => rw [afterRead_cart_of_named a (hr'.frame.cfg ▸ hd) hr, ih]

/-- Named peripherals whose reads store nothing keep their state. -/
theorem Reads.ext_of_named {s t : State} (h : Reads s t) {d : Device} (hd : s.cfg.extIo = .named d) (hr : d.onRead = []) :
    t.ext = s.ext := by
  induction h with
  | none => rfl
  | read a hr' ih => rw [afterRead_ext_of_named a (hr'.frame.cfg ▸ hd) hr, ih]

/-- A core-owned byte that reads as before. -/
def Kept (s : State) (b : Word) (t : State) : Prop := coreOwned t b = true ∧ readVal b t = readVal b s

theorem Reads.kept {s t : State} (h : Reads s t) {b : Word} (ho : coreOwned s b = true) : Kept s b t :=
  h.keeps (Kept s b) (fun a u hu => ⟨coreOwned_afterRead u hu.1, (readVal_afterRead a b u hu.1).trans hu.2⟩) ⟨ho, rfl⟩

theorem kept_stores {s r : State} {b : Word} {l : List (Word × Byte)} (hr : Kept s b r) (hl : ∀ x ∈ l, ¬ storeTouches x.1 x.2 b) :
    Kept s b (stores l r) :=
  stores_keeps (Kept s b)
    (fun x hx u hu => ⟨coreOwned_memWrite x.2 u hu.1 (hl x hx), (readVal_memWrite_other x.2 u hu.1 (hl x hx)).trans hu.2⟩) hr

theorem iflag_stores {s r : State} {l : List (Word × Byte)} (hr : r.irq.iflag = s.irq.iflag) (hl : ∀ x ∈ l, x.1 ≠ 0xFF0F) :
    (stores l r).irq.iflag = s.irq.iflag :=
  stores_keeps (fun u => u.irq.iflag = s.irq.iflag)
    (fun x hx u hu => ((memWrite_frame x.2 u).iflag.resolve_left (hl x hx)).trans hu) hr

theorem SameMemory.readVal {m t : State} (h : SameMemory m t) {b : Word} (ho : coreOwned m b = true) : readVal b t = readVal b m :=
  readVal_congr m t b ho h.cfg h.bootOverlay h.timer h.disp h.dma h.ie h.iflag h.mem (congrArg Cart.image h.cart)

/-! ### The statements -/

/-- Settles O37: the instruction's reads and its listed stores each keep the byte, and nothing else reaches memory. -/
theorem instructionsStoreOnlyWhereTheySay : Obligations.InstructionsStoreOnlyWhereTheySay := by
  intro i s t hwf hx b ho hl
  obtain ⟨r, hr, hm⟩ := (done_of_next hwf hx).memory
  obtain ⟨hown, hval⟩ := kept_stores (hr.kept ho) hl
  exact (hm.readVal hown).trans hval

/-- Settles O38: with no store listed, only reads reach memory and the devices. -/
theorem instructionsThatStoreNothing : Obligations.InstructionsThatStoreNothing := by
  intro i s t hwf hx hl
  have hd := done_of_next hwf hx
  obtain ⟨r, hr, hm⟩ := hd.memory
  rw [hl] at hm
  have hm : SameMemory r t := hm
  have hf := hr.frame
  have hie : t.irq.ie = s.irq.ie := hm.ie.trans (congrArg Interrupts.ie hf.irq)
  have hif : t.irq.iflag = s.irq.iflag := hm.iflag.trans (congrArg Interrupts.iflag hf.irq)
  refine ⟨hm.cfg.trans hf.cfg, hm.mem.trans hf.mem, (congrArg Cart.image hm.cart).trans hf.image, hm.timer.trans hf.timer,
    hm.disp.trans hf.disp, hm.dma.trans hf.dma, hm.bootOverlay.trans hf.bootOverlay, hm.fault.trans hf.fault, hie, hif, hd.halted,
    fun hdi hei hreti => ?irq, fun d hc hn => hm.cart.trans (hr.cart_of_named hc hn), fun d hc hn => hm.ext.trans (hr.ext_of_named hc hn)⟩
  case irq =>
    obtain ⟨hime, hdelayed⟩ := hd.ime hreti
    have hrequest := hd.imeRequest hdi hei hreti
    calc t.irq = ⟨t.irq.ie, t.irq.iflag, t.irq.ime, t.irq.imeDelayed, t.irq.imeRequest⟩ := rfl
      _ = s.irq := by rw [hie, hif, hime, hdelayed, hrequest]

/-- Settles O39: outside the list, the register file an instruction leaves has the flags of before. -/
theorem flagWriters : Obligations.FlagWriters := fun _ _ _ hwf hx => (done_of_next hwf hx).flags

/-- Settles O40: outside the control flow, an instruction ends at the address after its encoding. -/
theorem programCounterAdvances : Obligations.ProgramCounterAdvances := fun _ _ _ hwf hx => (done_of_next hwf hx).pc

/-- Settles O41: each row's ticks are those of its cell. -/
theorem tickCosts : Obligations.TickCosts := fun _ _ _ hwf hx => (done_of_next hwf hx).ticks

theorem opcode_cbRow (cb : Byte) : opcode (cbRow cb) = 0xCB := by rw [opcode, encode_cbRow]; rfl

theorem secondByte_cbRow (cb : Byte) : secondByte (cbRow cb) = cb := by rw [secondByte, encode_cbRow]; rfl

/-- Settles O30: every row of the CB table completes, and no row of it sets PC. -/
theorem prefixRunsTheCbRow : Obligations.PrefixRunsTheCbRow := by
  refine fun cb => ⟨decode_cb cb, fun s => ?_⟩
  obtain ⟨t, hx, hd⟩ := completes_cbRow s cb
  have hpc := hd.pc (by rw [opcode_cbRow]; rfl)
  have hticks := hd.ticks
  rw [encode_cbRow] at hpc
  rw [opcode_cbRow, secondByte_cbRow] at hticks
  exact ⟨t, hx, (Laws.exec_prefixCb cb s).trans hx, hpc, hticks⟩

end Sys2Proof.Proofs
end

section
/-! PROOFS. The step (R700 to R710, R760): what it answers in each case, the interrupt pipeline, the latched requests, and what every step
keeps of the parameters. -/

namespace Sys2Proof.Proofs

open Sys2Proof.Machine Sys2Proof.Claims

variable {s t : State}

/-! ### The cases of a step -/

/-- The state in which a normal step runs its instruction: begun, awake, and after the fetch. -/
def fetched (s : State) : State := (fetchInstr (wake (beginStep s))).2

/-- A normal step runs instruction `i`. -/
def Runs (s : State) (i : Instr) : Prop := decode s.cfg.stopLength (fetchInstr (wake (beginStep s))).1 = .ok (i, [])

theorem exists_runs (s : State) : ∃ i, Runs s i ∧ i.wellFormed = true := fetchInstr_decodes (wake (beginStep s))

theorem step_dispatch (hf : s.fault = none) (hdue : interruptDue (beginStep s) = true) :
    step s = .next (deliverTicks (takeInterrupt (beginStep s))) := by
  simp only [step, hf, hdue, if_true]

theorem step_idle (hf : s.fault = none) (hdue : interruptDue (beginStep s) = false) (hidle : idleDue (beginStep s) = true) :
    step s = .next (deliverTicks (idleStep (beginStep s))) := by
  simp only [step, hf, hdue, hidle, Bool.false_eq_true, if_false, if_true]

theorem step_run (hf : s.fault = none) (hdue : interruptDue (beginStep s) = false) (hidle : idleDue (beginStep s) = false) :
    step s = runInstr (wake (beginStep s)) := by
  simp only [step, hf, hdue, hidle, Bool.false_eq_true, if_false]

section Run
variable {i : Instr} (hi : Runs s i)
include hi

theorem runInstr_next (hx : exec i (fetched s) = .next t) : runInstr (wake (beginStep s)) = .next (deliverTicks t) := by
  unfold Runs at hi
  unfold fetched at hx
  simp only [runInstr, show (wake (beginStep s)).cfg = s.cfg from rfl, hi, hx]

theorem runInstr_fault {k : Fault} (hx : exec i (fetched s) = .fault k) : runInstr (wake (beginStep s)) = .fault k := by
  unfold Runs at hi
  unfold fetched at hx
  simp only [runInstr, show (wake (beginStep s)).cfg = s.cfg from rfl, hi, hx]

/-- A normal step that answers a next state ran its instruction to one. -/
theorem exec_of_runInstr_next (hwf : i.wellFormed = true) (h : runInstr (wake (beginStep s)) = .next t) :
    ∃ u, exec i (fetched s) = .next u ∧ t = deliverTicks u := by
  obtain ⟨u, hx, -⟩ | ⟨hx, -⟩ | ⟨op, -, hx, -⟩ := answers hwf (fetched s)
  · rw [runInstr_next hi hx, Host.Outcome.next.injEq] at h
    exact ⟨u, hx, h.symm⟩
  · rw [runInstr_fault hi hx] at h
    cases h
  · rw [runInstr_fault hi hx] at h
    cases h

end Run

/-- The parts of a state that the fetch of a normal step has changed: the pipeline has moved, and the outputs are cleared. -/
theorem fetched_irq (s : State) : (fetched s).irq = s.irq.pipeline := fetchInstr_irq _

theorem fetched_cfg (s : State) : (fetched s).cfg = s.cfg := fetchInstr_cfg _

theorem fetched_fault (s : State) : (fetched s).fault = s.fault := fetchInstr_fault _

theorem fetched_bootOverlay (s : State) : (fetched s).bootOverlay = s.bootOverlay := fetchInstr_bootOverlay _

/-- A step that answers a next state delivers the ticks of a dispatch, of an idle step, or of an instruction. -/
theorem step_next_cases (h : step s = .next t) :
    s.fault = none ∧ ∃ u, t = deliverTicks u
      ∧ ((interruptDue (beginStep s) = true ∧ u = takeInterrupt (beginStep s)) ∨ u = idleStep (beginStep s)
        ∨ ∃ i, Runs s i ∧ i.wellFormed = true ∧ exec i (fetched s) = .next u) := by
  have hf : s.fault = none := by
    cases hf : s.fault with
    | none => rfl
    | some k =>
      simp only [step, hf] at h
      cases h
  refine ⟨hf, ?_⟩
  cases hdue : interruptDue (beginStep s) with
  | true =>
    rw [step_dispatch hf hdue, Host.Outcome.next.injEq] at h
    exact ⟨_, h.symm, .inl ⟨rfl, rfl⟩⟩
  | false =>
    cases hidle : idleDue (beginStep s) with
    | true =>
      rw [step_idle hf hdue hidle, Host.Outcome.next.injEq] at h
      exact ⟨_, h.symm, .inr (.inl rfl)⟩
    | false =>
      rw [step_run hf hdue hidle] at h
      obtain ⟨i, hi, hwf⟩ := exists_runs s
      obtain ⟨u, hx, rfl⟩ := exec_of_runInstr_next hi hwf h
      exact ⟨u, rfl, .inr (.inr ⟨i, hi, hwf, hx⟩)⟩

/-- Settles O47: a dispatch and an idle step answer a next state, and an instruction answers as `answers` says. -/
theorem stepsComplete : Obligations.StepsComplete := by
  intro s hf
  cases hdue : interruptDue (beginStep s) with
  | true => exact .inl ⟨_, step_dispatch hf hdue⟩
  | false =>
    cases hidle : idleDue (beginStep s) with
    | true => exact .inl ⟨_, step_idle hf hdue hidle⟩
    | false =>
      rw [step_run hf hdue hidle, ← fetched_cfg s]
      obtain ⟨i, hi, hwf⟩ := exists_runs s
      obtain ⟨u, hx, -⟩ | ⟨hx, hp⟩ | ⟨op, hop, hx, hp⟩ := answers hwf (fetched s)
      · exact .inl ⟨_, runInstr_next hi hx⟩
      · exact .inr (.inl ⟨runInstr_fault hi hx, hp⟩)
      · exact .inr (.inr ⟨op, hop, runInstr_fault hi hx, hp⟩)

/-! ### What a delivery keeps -/

/-- A delivery of ticks as one update: the two devices, the notes, and requests set. -/
theorem deliverTicks_cases (s : State) :
    ∃ timer disp, ∃ flag : BitVec 5, ∃ out : StepOut,
      deliverTicks s = { s with timer := timer, disp := disp, irq := { s.irq with iflag := s.irq.iflag ||| flag }, out := out } := by
  obtain ⟨tima, acc, f, ht, -⟩ := timerTick_cases s.out.ticks s
  obtain ⟨mode, ticks, ly, hit, g, stat, vblank, hd⟩ := displayTick_cases s.out.ticks (timerTick s.out.ticks s)
  refine ⟨(deliverTicks s).timer, (deliverTicks s).disp, f ||| g, (deliverTicks s).out, ?_⟩
  rw [deliverTicks, hd, ht, ← BitVec.or_assoc]

theorem deliverTicks_cfg (s : State) : (deliverTicks s).cfg = s.cfg := by
  obtain ⟨_, _, _, _, h⟩ := deliverTicks_cases s
  rw [h]

theorem deliverTicks_fault (s : State) : (deliverTicks s).fault = s.fault := by
  obtain ⟨_, _, _, _, h⟩ := deliverTicks_cases s
  rw [h]

theorem deliverTicks_bootOverlay (s : State) : (deliverTicks s).bootOverlay = s.bootOverlay := by
  obtain ⟨_, _, _, _, h⟩ := deliverTicks_cases s
  rw [h]

theorem deliverTicks_ime (s : State) : (deliverTicks s).irq.ime = s.irq.ime := by
  obtain ⟨_, _, _, _, h⟩ := deliverTicks_cases s
  rw [h]

theorem deliverTicks_imeDelayed (s : State) : (deliverTicks s).irq.imeDelayed = s.irq.imeDelayed := by
  obtain ⟨_, _, _, _, h⟩ := deliverTicks_cases s
  rw [h]

theorem deliverTicks_imeRequest (s : State) : (deliverTicks s).irq.imeRequest = s.irq.imeRequest := by
  obtain ⟨_, _, _, _, h⟩ := deliverTicks_cases s
  rw [h]

/-! ### The dispatch -/

/-- `Push16` keeps what no store changes. -/
theorem sameControl_pushed (w : Word) (s : State) : SameControl s (pushed w s) :=
  sameControl_stores_reads (.none s) (storesOfPush w s)

theorem pushed_out (w : Word) (s : State) : (pushed w s).out = s.out := by rw [pushed, memWrite_out, memWrite_out]

/-- Taking an interrupt, as one update of the state after the push. -/
theorem takeInterrupt_eq (s : State) :
    takeInterrupt s
      = { pushed s.regs.pc s with
          regs := { s.regs with sp := s.regs.sp - 2, pc := vectorOf (firstLine (pendingLines s)) }
          irq := (pushed s.regs.pc s).irq.dispatched (firstLine (pendingLines s)) s.cfg.ifAutoclear
          halted := false
          out := { s.out with ticks := s.cfg.intDispatchTicks, dispatched := true } } := by
  have hcfg := (sameControl_pushed s.regs.pc s).cfg
  have hout := pushed_out s.regs.pc s
  rw [takeInterrupt, push16_eq_pushed, ← hcfg, ← hout]
  rfl

/-! ### Parameters and the overlay -/

/-- A store never brings the overlay back. -/
theorem overlay_memWrite (a : Word) (v : Byte) (h : s.bootOverlay = false) : (memWrite a v s).bootOverlay = false :=
  (memWrite_frame v s (a := a)).overlay.elim (fun e => e.trans h) (fun e => e.2.2)

/-- The parameters and the fault are kept, and an ended overlay stays ended. -/
def Persists (s t : State) : Prop := t.cfg = s.cfg ∧ t.fault = s.fault ∧ (s.bootOverlay = false → t.bootOverlay = false)

theorem persists_takeInterrupt (s : State) : Persists s (takeInterrupt s) := by
  have hc := sameControl_pushed s.regs.pc s
  rw [takeInterrupt_eq]
  exact ⟨hc.cfg, hc.fault, fun h => overlay_memWrite _ _ (overlay_memWrite _ _ h)⟩

theorem persists_exec {i : Instr} (hwf : i.wellFormed = true) (hx : exec i s = .next t) : Persists s t := by
  obtain ⟨r, hr, hm⟩ := (done_of_next hwf hx).memory
  have hc := sameControl_stores_reads hr (storesOf i s)
  refine ⟨hm.cfg.trans hc.cfg, hm.fault.trans hc.fault, fun h => hm.bootOverlay.trans ?_⟩
  exact stores_keeps (fun u => u.bootOverlay = false) (fun x _ _ hu => overlay_memWrite x.1 x.2 hu) (hr.frame.bootOverlay.trans h)

/-- Settles O50: no part of a step changes the parameters or sets a fault, and no store brings the overlay back. -/
theorem parametersAndOverlayPersist : Obligations.ParametersAndOverlayPersist := by
  intro s t h
  obtain ⟨hf, u, rfl, hu⟩ := step_next_cases h
  have hp : Persists s u := by
    obtain ⟨-, rfl⟩ | rfl | ⟨i, -, hwf, hx⟩ := hu
    · exact persists_takeInterrupt (beginStep s)
    · exact ⟨rfl, rfl, id⟩
    · obtain ⟨hcfg, hfault, hover⟩ := persists_exec hwf hx
      exact ⟨hcfg.trans (fetched_cfg s), hfault.trans (fetched_fault s), fun ho => hover ((fetched_bootOverlay s).trans ho)⟩
  obtain ⟨hcfg, hfault, hover⟩ := hp
  exact ⟨(deliverTicks_cfg u).trans hcfg, (deliverTicks_fault u).trans (hfault.trans hf),
    fun ho => (deliverTicks_bootOverlay u).trans (hover ho)⟩

/-! ### The interrupt pipeline -/

/-- An instruction other than RETI leaves IME and the delayed slot as the start of its step made them. -/
theorem pipeline_of_run {i : Instr} {u : State} (hwf : i.wellFormed = true) (hx : exec i (fetched s) = .next u) (h : i ≠ .reti) :
    u.irq.ime = (beginStep s).irq.ime ∧ u.irq.imeDelayed = s.irq.imeRequest := by
  obtain ⟨hime, hdelayed⟩ := (done_of_next hwf hx).ime h
  rw [fetched_irq] at hime hdelayed
  exact ⟨hime, hdelayed⟩

/-- EI and DI put their value into the request slot. -/
theorem imeRequest_of_enable {i : Instr} {enable : Bool} (hi : i = if enable then .ei else .di) (hx : exec i s = .next t) :
    t.irq.imeRequest = some enable := by
  cases enable <;> subst hi <;> cases hx <;> rfl

/-- A step that dispatches nothing and runs no RETI leaves IME as its start made it, and the request of before in the delayed slot. -/
theorem pipeline_of_step {j : Instr} (hdue : interruptDue (beginStep s) = false) (hj : Runs s j) (hne : j ≠ .reti) (h : step s = .next t) :
    t.irq.ime = (beginStep s).irq.ime ∧ t.irq.imeDelayed = s.irq.imeRequest := by
  obtain ⟨-, u, rfl, ⟨hdue', -⟩ | rfl | ⟨i, hi, hwf, hx⟩⟩ := step_next_cases h
  · rw [hdue] at hdue'
    cases hdue'
  · rw [deliverTicks_ime, deliverTicks_imeDelayed]
    exact ⟨rfl, rfl⟩
  · have hij : i = j := by
      have := hi.symm.trans hj
      simpa using this
    rw [deliverTicks_ime, deliverTicks_imeDelayed]
    exact pipeline_of_run hwf hx (hij ▸ hne)

/-- Settles O45: the request of the first step is delayed by the second and reaches IME at the start of the third. -/
theorem enableIsDelayedByOneInstruction : Obligations.EnableIsDelayedByOneInstruction := by
  intro s t u i j enable hf hdue hidle hi hen hst hdue' hj hne htu
  have hne' : i ≠ .reti := by cases enable <;> subst hen <;> decide
  have hwf : i.wellFormed = true := by cases enable <;> subst hen <;> rfl
  obtain ⟨him, hdel⟩ := pipeline_of_step hdue hi hne' hst
  obtain ⟨him', hdel'⟩ := pipeline_of_step hdue' hj hne htu
  have hreq : t.irq.imeRequest = some enable := by
    rw [step_run hf hdue hidle] at hst
    obtain ⟨v, hx, rfl⟩ := exec_of_runInstr_next hi hwf hst
    rw [deliverTicks_imeRequest]
    exact imeRequest_of_enable hen hx
  refine ⟨him, ?_, him', ?_⟩
  · show t.irq.imeDelayed.getD t.irq.ime = _
    rw [hdel]
  · show u.irq.imeDelayed.getD u.irq.ime = _
    rw [hdel', hreq]
    rfl

end Sys2Proof.Proofs
end

section
/-! PROOFS. The step, continued: the fetch of an instruction, the dispatch, the halt, the sticky faults, and the latched requests. -/

namespace Sys2Proof.Proofs

open Sys2Proof.Machine Sys2Proof.Claims

variable {s t : State}

/-! ### The fetch -/

/-- A fetch of core-owned bytes changes nothing and gives the bytes that reads give. -/
theorem fetchBytes_of_coreOwned (n : Nat) (a : Word) (h : ∀ k : Nat, k < n → coreOwned s (a + BitVec.ofNat 16 k) = true) :
    (fetchBytes n a s).2 = s ∧ ∀ k : Nat, k < n → (fetchBytes n a s).1[k]? = some (readVal (a + BitVec.ofNat 16 k) s) := by
  induction n generalizing a with
  | zero => exact ⟨rfl, fun k hk => absurd hk (Nat.not_lt_zero k)⟩
  | succ n ih =>
    have hnext : ∀ k : Nat, a + BitVec.ofNat 16 (k + 1) = a + 1 + BitVec.ofNat 16 k := fun k => by
      rw [Nat.add_comm, BitVec.ofNat_add, ← BitVec.add_assoc]
      rfl
    have hfirst : a + BitVec.ofNat 16 0 = a := BitVec.add_zero a
    have hread : afterRead a s = s := afterRead_coreOwned s (hfirst ▸ h 0 (Nat.succ_pos n))
    obtain ⟨hstate, hbytes⟩ := ih (a + 1) (fun k hk => hnext k ▸ h (k + 1) (Nat.succ_lt_succ hk))
    rw [fetchBytes, hread]
    refine ⟨hstate, fun k hk => ?_⟩
    cases k with
    | zero => rw [hfirst]; rfl
    | succ k => rw [hnext]; exact hbytes k (Nat.lt_of_succ_lt_succ hk)

/-- A normal step is what its instruction answers, with the ticks of a next state delivered. -/
theorem runInstr_of_decode {i : Instr} {rest : List Byte} (h : decode s.cfg.stopLength (fetchInstr s).1 = .ok (i, rest)) :
    runInstr s = match exec i (fetchInstr s).2 with
      | .next t => .next (deliverTicks t)
      | .fault k => .fault k
      | .refused r => .refused r := by
  cases hx : exec i (fetchInstr s).2 <;> simp only [runInstr, h, hx]

/-- Settles O42: the fetch reads as many bytes as the first one gives, and they decode to the instruction that the step runs. -/
theorem stepRunsTheDecodedInstruction : Obligations.StepRunsTheDecodedInstruction := by
  intro s hf hdue hidle w n f
  refine ⟨fetchBytes_length _ _ w, fun i rest hdec => ?runs, fun hown => ?fetch⟩
  case runs =>
    rw [step_run hf hdue hidle]
    exact runInstr_of_decode hdec
  case fetch => exact fetchBytes_of_coreOwned (s := w) n s.regs.pc hown

/-! ### The dispatch -/

/-- The first line of a set of lines is the least one in it. -/
theorem firstLine_eq {p : BitVec 5} {k : Nat} (hk : k < 5) (h : p.getLsbD k = true) (hleast : ∀ j : Nat, j < k → p.getLsbD j = false) :
    firstLine p = k := by
  have key : ∀ k : Fin 5, ∀ p : BitVec 5, p.getLsbD k = true → (∀ j : Fin 5, j < k → p.getLsbD j = false) → firstLine p = k := by decide
  exact key ⟨k, hk⟩ p h (fun j hj => hleast j hj)

theorem getLsbD_pendingLines (s : State) {k : Nat} (hk : k < 5) :
    (pendingLines s).getLsbD k = (s.irq.ie.getLsbD k && s.irq.iflag.getLsbD k) := by
  rw [pendingLines, BitVec.getLsbD_and, BitVec.getLsbD_extractLsb', Nat.zero_add, decide_eq_true hk, Bool.true_and]

/-- Settles O43: the least line is pending, so the step dispatches, and the line is chosen before the push. -/
theorem interruptDispatch : Obligations.InterruptDispatch := by
  intro s k hf hime hk hset hleast
  have hfirst : firstLine (pendingLines s) = k :=
    firstLine_eq hk (by rw [getLsbD_pendingLines s hk, hset])
      (fun j hj => by rw [getLsbD_pendingLines s (Nat.lt_trans hj hk), hleast j hj])
  have hpending : pendingLines s ≠ 0 := fun h => by
    have hbit := getLsbD_pendingLines s hk
    rw [h, hset, BitVec.ofNat_eq_ofNat, BitVec.getLsbD_zero] at hbit
    cases hbit
  have hdue : interruptDue (beginStep s) = true := by
    show (s.irq.imeDelayed.getD s.irq.ime && pendingLines s != 0) = true
    rw [hime, Bool.true_and, bne_iff_ne]
    exact hpending
  refine ⟨_, step_dispatch hf hdue, ?_⟩
  rw [takeInterrupt_eq, show firstLine (pendingLines (beginStep s)) = k from hfirst]
  rfl

/-! ### The halt -/

theorem interruptDue_beginStep_of_none (h : pendingLines s = 0) : interruptDue (beginStep s) = false := by
  show (_ && pendingLines s != 0) = false
  rw [h, bne_self_eq_false, Bool.and_false]

theorem interruptDue_beginStep_of_ime (h : s.irq.imeDelayed.getD s.irq.ime = false) : interruptDue (beginStep s) = false := by
  show (s.irq.imeDelayed.getD s.irq.ime && _) = false
  rw [h, Bool.false_and]

theorem idleDue_beginStep (s : State) : idleDue (beginStep s) = (s.halted && pendingLines s == 0) := rfl

/-- Settles O44: a pending line decides between the idle step and the normal step, which does not look at the halt. -/
theorem haltedSteps : Obligations.HaltedSteps := by
  intro s hf hh
  refine ⟨fun h => ?idle, fun h hime => ?wakes⟩
  case idle => exact step_idle hf (interruptDue_beginStep_of_none h) (by rw [idleDue_beginStep, hh, h]; rfl)
  case wakes =>
    have hidle : idleDue (beginStep s) = false := by rw [idleDue_beginStep, hh, beq_eq_false_iff_ne.mpr h]; rfl
    have hidle' : idleDue (beginStep { s with halted := false }) = false := rfl
    have hdue' : interruptDue (beginStep { s with halted := false }) = false := interruptDue_beginStep_of_ime (by exact hime)
    rw [step_run hf (interruptDue_beginStep_of_ime hime) hidle, step_run (by exact hf) hdue' hidle']
    rfl

/-! ### Faults -/

theorem step_of_fault {k : Fault} (h : s.fault = some k) : step s = .fault k := by simp only [step, h]

theorem faultState_of_none (k : Fault) (h : s.fault = none) : faultState k s = (fetched s).faulted k := by
  simp only [faultState, h]
  rfl

/-- Settles O46: the fault is held by the state that the fetch left, and a held fault is the whole step. -/
theorem faultsAreSticky : Obligations.FaultsAreSticky := by
  refine ⟨fun s k h => ⟨step_of_fault h, by simp only [faultState, h]⟩, fun s k h _ => ?_⟩
  rw [faultState_of_none k h]
  exact ⟨rfl, step_of_fault rfl, fetchInstr_regs _, fetchInstr_irq _, fetchInstr_mem _, fetchInstr_timer _, fetchInstr_disp _, fetchInstr_dma _,
    fetchInstr_bootOverlay _, fetchInstr_cfg _⟩

/-! ### Latched requests -/

/-- A state with IE and IME changed. -/
def withEnables (ie : Byte) (ime : Bool) (s : State) : State := { s with irq := { s.irq with ie := ie, ime := ime } }

section Enables
variable (ie : Byte) (ime : Bool) (s : State)

theorem timerTick_withEnables (n : Nat) : timerTick n (withEnables ie ime s) = withEnables ie ime (timerTick n s) := by
  cases h : s.timer.tac.getLsbD 2 with
  | false =>
    rw [timerTick_stopped n h, timerTick_stopped n (by exact h)]
    rfl
  | true =>
    rw [timerTick_running n h, timerTick_running n (by exact h), timaBumps_eq, timaBumps_eq]
    rfl

theorem phaseEnd_withEnables : phaseEnd (withEnables ie ime s) = withEnables ie ime (phaseEnd s) := by
  cases hm : s.disp.mode
  case oamScan => rw [phaseEnd_oamScan hm, phaseEnd_oamScan (by exact hm)]; rfl
  case transfer => rw [phaseEnd_transfer hm, phaseEnd_transfer (by exact hm)]; rfl
  case hBlank =>
    rw [phaseEnd_hBlank hm, phaseEnd_hBlank (by exact hm), apply_ite (withEnables ie ime)]
    rfl
  case vBlank =>
    rw [phaseEnd_vBlank hm, phaseEnd_vBlank (by exact hm), apply_ite (withEnables ie ime)]
    rfl

theorem phaseLoop_withEnables (n : Nat) : phaseLoop n (withEnables ie ime s) = withEnables ie ime (phaseLoop n s) := by
  induction n generalizing s with
  | zero => rfl
  | succ n ih =>
    have hstep : phaseStep (withEnables ie ime s) = withEnables ie ime (phaseStep s) :=
      phaseEnd_withEnables ie ime (withPhaseTicks (s.disp.phaseTicks - s.disp.mode.duration) s)
    rw [phaseLoop, phaseLoop, apply_ite (withEnables ie ime), hstep, ih]
    rfl

theorem displayTick_withEnables (n : Nat) : displayTick n (withEnables ie ime s) = withEnables ie ime (displayTick n s) := by
  rw [displayTick_eq, displayTick_eq, apply_ite (withEnables ie ime), settle, settle, ← phaseLoop_withEnables]
  rfl

/-- A delivery of ticks does not look at IE or IME. -/
theorem deliverTicks_withEnables : deliverTicks (withEnables ie ime s) = withEnables ie ime (deliverTicks s) := by
  show displayTick s.out.ticks (timerTick s.out.ticks (withEnables ie ime s)) = _
  rw [timerTick_withEnables, displayTick_withEnables]
  rfl

end Enables

/-- A push that does not store to 0xFF0F keeps IF. -/
theorem pushed_iflag (w : Word) (h1 : s.regs.sp - 1 ≠ 0xFF0F) (h2 : s.regs.sp - 2 ≠ 0xFF0F) : (pushed w s).irq.iflag = s.irq.iflag := by
  refine iflag_stores (l := storesOfPush w s) rfl ?_
  simp only [storesOfPush, List.forall_mem_cons, List.not_mem_nil, false_implies, implies_true, and_true]
  exact ⟨h1, h2⟩

theorem getLsbD_clear_ne (f : BitVec 5) {j k : Nat} (h : k ≠ j) : (f &&& ~~~(1#5 <<< j)).getLsbD k = f.getLsbD k := by
  by_cases hk : k < 5
  · have hbit : (1#5 <<< j).getLsbD k = false := by
      rw [BitVec.getLsbD_shiftLeft, BitVec.getLsbD_one]
      by_cases hlt : k < j
      · simp [hlt]
      · simp [show ¬ (k - j = 0) by omega]
    rw [BitVec.getLsbD_and, BitVec.getLsbD_not, hbit, decide_eq_true hk, Bool.not_false, Bool.and_true, Bool.and_true]
  · rw [BitVec.getLsbD_of_ge _ _ (Nat.le_of_not_lt hk), BitVec.getLsbD_of_ge _ _ (Nat.le_of_not_lt hk)]

/-- Settles O51: deliveries only set bits of IF, an instruction reaches IF by its stores only, and a dispatch clears its own line. -/
theorem requestsAreLatched : Obligations.RequestsAreLatched := by
  refine ⟨fun s k h => ?delivery, fun i s t hwf hx hl => ?instruction, fun s h1 h2 => ?dispatch, fun k i => ?raise, fun s ie ime => ?enables⟩
  case delivery =>
    obtain ⟨_, _, flag, _, hd⟩ := deliverTicks_cases s
    rw [hd]
    show (s.irq.iflag ||| flag).getLsbD k = true
    rw [BitVec.getLsbD_or, h, Bool.true_or]
  case instruction =>
    obtain ⟨r, hr, hm⟩ := (done_of_next hwf hx).memory
    exact hm.iflag.trans (iflag_stores (congrArg Interrupts.iflag hr.frame.irq) hl)
  case dispatch =>
    have hflag : (takeInterrupt s).irq.iflag
        = if s.cfg.ifAutoclear then s.irq.iflag &&& ~~~(1#5 <<< firstLine (pendingLines s)) else s.irq.iflag := by
      rw [takeInterrupt_eq, ← pushed_iflag s.regs.pc h1 h2]
      rfl
    rw [hflag]
    refine ⟨fun h => by rw [h]; rfl, fun k hk => ?_⟩
    split
    · exact getLsbD_clear_ne _ hk
    · rfl
  case raise => simp only [raiseLine, BitVec.or_assoc, BitVec.or_self]
  case enables => exact (congrArg (fun u : State => u.irq.iflag) (deliverTicks_withEnables ie ime s) :)

end Sys2Proof.Proofs
end

section
/-! PROOFS. The invariant (R110 to R112, R203, R775, R784, R787): it holds after a reset and every step keeps it; and what `Reset` builds
(R117, R800 to R803). -/

namespace Sys2Proof.Proofs

open Sys2Proof.Machine Sys2Proof.Claims

variable {s t : State}

/-! ### The parts of the invariant -/

/-- The line of the display is one of a frame, and its mode fits it. -/
def LineFits (d : Display) : Prop := d.ly.toNat ≤ 153 ∧ (d.mode = .vBlank ↔ 144 ≤ d.ly.toNat)

/-- The invariant without the stores. -/
structure DevicesFit (s : State) : Prop where
  divAcc : s.timer.divAcc < 256
  timaAcc : s.timer.timaAcc < timerDivisor s.timer.tac
  phase : s.disp.phaseTicks < s.disp.mode.duration
  line : LineFits s.disp
  overlay : s.bootOverlay = true → s.cfg.bootRom.isSome = true

theorem inv_iff : Inv s ↔ Stored s ∧ DevicesFit s := by
  constructor
  · rintro ⟨mem, image, cells, ext, divAcc, timaAcc, phase, line, vblank, overlay⟩
    exact ⟨⟨mem, image, cells, ext⟩, ⟨divAcc, timaAcc, phase, ⟨line, vblank⟩, overlay⟩⟩
  · rintro ⟨⟨mem, image, cells, ext⟩, ⟨divAcc, timaAcc, phase, ⟨line, vblank⟩, overlay⟩⟩
    exact ⟨mem, image, cells, ext, divAcc, timaAcc, phase, line, vblank, overlay⟩

theorem DevicesFit.of_eq (h : DevicesFit s) (ht : t.timer = s.timer) (hd : t.disp = s.disp) (hc : t.cfg = s.cfg)
    (ho : t.bootOverlay = s.bootOverlay) : DevicesFit t := by
  obtain ⟨hdiv, htima, hphase, hline, hover⟩ := h
  exact ⟨ht ▸ hdiv, ht ▸ htima, hd ▸ hphase, hd ▸ hline, fun h => hc ▸ hover (ho ▸ h)⟩

theorem stored_of_sameMemory (h : Stored s) (hm : SameMemory s t) : Stored t :=
  ⟨by rw [hm.mem, hm.cfg]; exact h.mem, hm.cart ▸ h.image, hm.cart ▸ h.cells, hm.ext ▸ h.ext⟩

/-! ### Accesses -/

/-- The divisor looks at TAC's two low bits only. -/
theorem timerDivisor_congr {x y : BitVec 3} (h : x.extractLsb' 0 2 = y.extractLsb' 0 2) : timerDivisor x = timerDivisor y := by
  unfold timerDivisor
  rw [h]

theorem devicesFit_memWrite (h : DevicesFit s) (a : Word) (v : Byte) : DevicesFit (memWrite a v s) := by
  have hf := memWrite_frame v s (a := a)
  refine ⟨?divAcc, ?timaAcc, ?phase, ?line, ?overlay⟩
  case divAcc =>
    obtain e | ⟨-, e⟩ := hf.divAcc
    · exact e ▸ h.divAcc
    · rw [e]
      exact Nat.succ_pos 255
  case timaAcc =>
    obtain ⟨e, etac⟩ | ⟨-, e⟩ := hf.timaAcc
    · rw [e, timerDivisor_congr etac]
      exact h.timaAcc
    · rw [e]
      exact timerDivisor_pos _
  case phase =>
    rw [hf.phaseTicks, hf.mode]
    exact h.phase
  case line =>
    unfold LineFits
    rw [hf.ly, hf.mode]
    exact h.line
  case overlay =>
    rw [memWrite_cfg]
    intro ho
    obtain e | ⟨-, -, e⟩ := hf.overlay
    · exact h.overlay (e ▸ ho)
    · rw [e] at ho
      cases ho

theorem Reads.inv {r : State} (hr : Reads s r) (h : Inv s) : Inv r := by
  obtain ⟨hs, hd⟩ := inv_iff.mp h
  have hf := hr.frame
  exact inv_iff.mpr ⟨hr.keeps Stored afterRead_stored hs, hd.of_eq hf.timer hf.disp hf.cfg hf.bootOverlay⟩

theorem inv_memWrite (h : Inv s) (a : Word) (v : Byte) : Inv (memWrite a v s) := by
  obtain ⟨hs, hd⟩ := inv_iff.mp h
  exact inv_iff.mpr ⟨memWrite_stored a v s hs, devicesFit_memWrite hd a v⟩

theorem inv_stores (h : Inv s) (l : List (Word × Byte)) : Inv (stores l s) :=
  stores_keeps Inv (fun x _ _ hu => inv_memWrite hu x.1 x.2) h

theorem SameMemory.inv (hm : SameMemory s t) (h : Inv s) : Inv t := by
  obtain ⟨hs, hd⟩ := inv_iff.mp h
  exact inv_iff.mpr ⟨stored_of_sameMemory hs hm, hd.of_eq hm.timer hm.disp hm.cfg hm.bootOverlay⟩

/-! ### Deliveries -/

/-- A delivery to the timer keeps its accumulators below their periods, and does not touch the display or the overlay. -/
theorem devicesFit_timerTick (n : Nat) (h : DevicesFit s) : DevicesFit (timerTick n s) := by
  obtain ⟨tima, acc, flag, ht, hacc⟩ := timerTick_cases n s
  rw [ht]
  exact ⟨Nat.mod_lt _ (Nat.succ_pos 255), hacc h.timaAcc, h.phase, h.line, h.overlay⟩

/-- The end of a phase goes to a mode that fits the line it goes to. -/
theorem lineFits_phaseEnd (h : LineFits s.disp) : LineFits (phaseEnd s).disp := by
  obtain ⟨hly, hfit⟩ := h
  cases hm : s.disp.mode <;> rw [hm] at hfit
  case oamScan =>
    have hlow : ¬ 144 ≤ s.disp.ly.toNat := fun h => Mode.noConfusion (hfit.mpr h)
    rw [phaseEnd_oamScan hm]
    exact ⟨hly, fun h => Mode.noConfusion h, fun h => absurd h hlow⟩
  case transfer =>
    have hlow : ¬ 144 ≤ s.disp.ly.toNat := fun h => Mode.noConfusion (hfit.mpr h)
    rw [phaseEnd_transfer hm]
    exact ⟨hly, fun h => Mode.noConfusion h, fun h => absurd h hlow⟩
  case hBlank =>
    have hlow : ¬ 144 ≤ s.disp.ly.toNat := fun h => Mode.noConfusion (hfit.mpr h)
    rw [phaseEnd_hBlank hm]
    split
    · exact ⟨show (s.disp.ly + 1).toNat ≤ 153 by bv_omega, fun _ => show 144 ≤ (s.disp.ly + 1).toNat by bv_omega, fun _ => rfl⟩
    · exact ⟨show (s.disp.ly + 1).toNat ≤ 153 by bv_omega, fun h => Mode.noConfusion h,
        fun h => absurd (show 144 ≤ (s.disp.ly + 1).toNat from h) (by bv_omega)⟩
  case vBlank =>
    have hhigh : 144 ≤ s.disp.ly.toNat := hfit.mp rfl
    have hafter : lineAfter s.disp.ly = 0 ∨ (144 ≤ (lineAfter s.disp.ly).toNat ∧ (lineAfter s.disp.ly).toNat ≤ 153) := by
      unfold lineAfter
      split
      · exact .inl rfl
      · exact .inr (by bv_omega)
    rw [phaseEnd_vBlank hm]
    split
    · rename_i hzero
      rw [hzero]
      exact ⟨show (0 : Byte).toNat ≤ 153 by decide, fun h => Mode.noConfusion h,
        fun h => absurd (show 144 ≤ (0 : Byte).toNat from h) (by decide)⟩
    · rename_i hne
      obtain ⟨hlo, hhi⟩ := hafter.resolve_left hne
      exact ⟨hhi, fun _ => hlo, fun _ => rfl⟩

theorem lineFits_displayTick (n : Nat) (h : LineFits s.disp) : LineFits (displayTick n s).disp := by
  rw [displayTick_eq]
  split
  · exact h
  · exact phaseLoop_keeps (fun u => LineFits u.disp) (fun u hu => lineFits_phaseEnd (s := withPhaseTicks _ u) hu) _ _ h

/-- A delivery to the display stops inside a phase. -/
theorem phase_displayTick (n : Nat) (h : s.disp.phaseTicks < s.disp.mode.duration) :
    (displayTick n s).disp.phaseTicks < (displayTick n s).disp.mode.duration := by
  rw [displayTick_eq]
  split
  · exact h
  · exact phaseLoop_done _ _ le_rfl

theorem devicesFit_displayTick (n : Nat) (h : DevicesFit s) : DevicesFit (displayTick n s) := by
  have hphase := phase_displayTick n h.phase
  have hline := lineFits_displayTick n h.line
  obtain ⟨_, _, _, _, _, _, _, hd⟩ := displayTick_cases n s
  rw [hd] at hphase hline ⊢
  exact ⟨h.divAcc, h.timaAcc, hphase, hline, h.overlay⟩

theorem inv_deliverTicks (h : Inv s) : Inv (deliverTicks s) := by
  obtain ⟨hs, hd⟩ := inv_iff.mp h
  exact inv_iff.mpr ⟨deliverTicks_stored s hs, devicesFit_displayTick _ (devicesFit_timerTick _ hd)⟩

/-! ### The step -/

theorem inv_beginStep (h : Inv s) : Inv (beginStep s) :=
  ⟨h.mem, h.image, h.cells, h.ext, h.divAcc, h.timaAcc, h.phase, h.line, h.vblank, h.overlay⟩

theorem inv_fetched (h : Inv s) : Inv (fetched s) := by
  obtain ⟨hs, hd⟩ := inv_iff.mp h
  exact inv_iff.mpr ⟨fetchInstr_stored _ ⟨hs.mem, hs.image, hs.cells, hs.ext⟩,
    hd.of_eq (fetchInstr_timer _) (fetchInstr_disp _) (fetchInstr_cfg _) (fetchInstr_bootOverlay _)⟩

theorem inv_takeInterrupt (h : Inv s) : Inv (takeInterrupt s) := by
  obtain ⟨hs, hd⟩ := inv_iff.mp (inv_stores h (storesOfPush s.regs.pc s))
  rw [takeInterrupt_eq]
  exact inv_iff.mpr ⟨⟨hs.mem, hs.image, hs.cells, hs.ext⟩, hd.of_eq rfl rfl rfl rfl⟩

theorem inv_exec {i : Instr} (hwf : i.wellFormed = true) (hx : exec i s = .next t) (h : Inv s) : Inv t := by
  obtain ⟨r, hr, hm⟩ := (done_of_next hwf hx).memory
  exact hm.inv (inv_stores (hr.inv h) _)

/-- Settles O49: reads, stores and deliveries each keep the invariant, and a step is made of them. -/
theorem stepKeepsInvariant : Obligations.StepKeepsInvariant := by
  intro s t hinv h
  obtain ⟨-, u, rfl, ⟨-, rfl⟩ | rfl | ⟨i, -, hwf, hx⟩⟩ := step_next_cases h
  · exact inv_deliverTicks (inv_takeInterrupt (inv_beginStep hinv))
  · have hb := inv_beginStep hinv
    exact inv_deliverTicks ⟨hb.mem, hb.image, hb.cells, hb.ext, hb.divAcc, hb.timaAcc, hb.phase, hb.line, hb.vblank, hb.overlay⟩
  · exact inv_deliverTicks (inv_exec hwf hx (inv_fetched hinv))

/-! ### Reset -/

/-- What one given cell does to the memory after reset. -/
def putGiven (rest : Byte) (m : Memory) (cell : Host.Cell) : Memory := if isStorage cell.1 then m.put (some rest) cell.1 cell.2 else m

theorem initialMemory_given (cells : List Host.Cell) (rest : Byte) : initialMemory (.given cells rest) = cells.foldl (putGiven rest) [] := rfl

theorem within_putGiven (rest : Byte) (cells : List Host.Cell) (m : Memory) (h : m.within (some rest) isStorage = true) :
    (cells.foldl (putGiven rest) m).within (some rest) isStorage = true := by
  induction cells generalizing m with
  | nil => exact h
  | cons c cells ih =>
    refine ih _ ?_
    unfold putGiven
    split
    · exact Memory.within_put _ _ _ _ _ ‹_› h
    · exact h

theorem within_initialMemory (r : RamInit) : (initialMemory r).within (ramFill r) isStorage = true := by
  cases r with
  | unconstrained => rfl
  | given cells rest => exact within_putGiven rest cells [] rfl

/-- The byte of a RAM address after one given cell. -/
theorem getD_read_putGiven {rest : Byte} {m : Memory} {c : Host.Cell} {k : Nat} (hk : isStorage k = true) :
    ((putGiven rest m c).read k).getD rest = if c.1 = k then c.2 else (m.read k).getD rest := by
  unfold putGiven
  split
  · exact Memory.getD_read_put _ _ _ _ _ _ (fun w h => by simpa using h)
  · rename_i hc
    exact (if_neg fun e => hc (by rw [e]; exact hk)).symm

/-- Cells at other addresses leave the byte of an address. -/
theorem getD_read_foldl_putGiven {rest : Byte} {cells : List Host.Cell} {m : Memory} {k : Nat} (hk : isStorage k = true)
    (h : ∀ x ∈ cells, x.1 ≠ k) : ((cells.foldl (putGiven rest) m).read k).getD rest = (m.read k).getD rest := by
  induction cells generalizing m with
  | nil => rfl
  | cons c cells ih =>
    rw [List.foldl_cons, ih (fun x hx => h x (List.mem_cons_of_mem c hx)), getD_read_putGiven hk, if_neg (h c List.mem_cons_self)]

theorem readVal_ram {a : Word} (h : RamAddress a) (s : State) : isStorage a.toNat = true ∧ readVal a s = ramVal s a.toNat := by
  have hs : isStorage a.toNat = true := (isStorage_iff _).mpr h
  have hp : physical a = a.toNat := physical_of_not_echo (by unfold RamAddress at h; omega)
  exact ⟨hs, (readVal_storage s (by rw [hp]; exact hs)).trans (by rw [hp])⟩

/-- A state whose memory is that of a reset reads its RAM as the reset gives it. -/
theorem ramAfterReset {r : RamInit} (hc : s.cfg.ramInit = r) (hm : s.mem = initialMemory r) : RamAfterReset r s := by
  intro a ha
  obtain ⟨hk, hread⟩ := readVal_ram ha s
  rw [hread, ramVal, hc, hm]
  cases r with
  | unconstrained => rfl
  | given cells rest =>
    rw [initialMemory_given]
    refine ⟨fun before after v hcells hafter => ?_, fun hnone => getD_read_foldl_putGiven hk hnone⟩
    rw [hcells, List.foldl_append, List.foldl_cons]
    exact (getD_read_foldl_putGiven hk hafter).trans ((getD_read_putGiven hk).trans (if_pos rfl))

/-- Settles O59: each profile's column is a constant of the model, and the RAM is filled cell by cell from what is given. -/
theorem resetAndExternalEvents : Obligations.ResetAndExternalEvents := by
  refine ⟨fun p cart ext hp => ?postBoot, fun p cart ext hp hrom => ?bootRom, fun p cart ext hp hrom => if_pos ⟨hp, hrom⟩,
    fun bit s => ⟨?serial, ?joypad, fun h3 h4 => if_neg (not_or.mpr ⟨h3, h4⟩)⟩⟩
  case postBoot =>
    rw [resetWith, hp, if_neg (fun h => ResetProfile.noConfusion h.1)]
    exact ⟨_, rfl, rfl, rfl, rfl, rfl, rfl, rfl, rfl, rfl, rfl, rfl, rfl, ramAfterReset rfl rfl⟩
  case bootRom =>
    rw [resetWith, hp, if_neg (fun h => hrom h.2)]
    exact ⟨_, rfl, rfl, rfl, rfl, rfl, rfl, rfl, rfl, rfl, rfl, rfl, rfl, ramAfterReset rfl rfl⟩
  case serial =>
    rintro rfl
    rfl
  case joypad =>
    rintro rfl
    rfl

/-- Both columns of the reset table start inside the first phase of line 0, with empty accumulators. -/
theorem profileReset_devices (r : ResetProfile) :
    (profileReset r).timer.divAcc < 256 ∧ (profileReset r).timer.timaAcc < timerDivisor (profileReset r).timer.tac
      ∧ (profileReset r).disp.phaseTicks < (profileReset r).disp.mode.duration ∧ (profileReset r).disp.ly.toNat ≤ 153
      ∧ ((profileReset r).disp.mode = .vBlank ↔ 144 ≤ (profileReset r).disp.ly.toNat) := by
  cases r <;> decide

/-- Settles O48: a reset starts its devices at zero and its overlay only with a boot program, and fills its RAM with cells put in order. -/
theorem invariantAtReset : Obligations.InvariantAtReset := by
  refine ⟨?default, fun p cart ext s himage hcells hext h => ?given⟩
  case default =>
    obtain ⟨hdiv, htima, hphase, hline, hvblank⟩ := profileReset_devices .postBoot
    exact ⟨rfl, rfl, rfl, rfl, hdiv, htima, hphase, hline, hvblank, fun h => Bool.noConfusion h⟩
  case given =>
    unfold resetWith at h
    split at h
    · cases h
    · rename_i hrom
      rw [Host.Outcome.next.injEq] at h
      subst h
      obtain ⟨hdiv, htima, hphase, hline, hvblank⟩ := profileReset_devices p.resetProfile
      refine ⟨within_initialMemory p.ramInit, himage, hcells, hext, hdiv, htima, hphase, hline, hvblank, fun hover => ?_⟩
      cases hp : p.resetProfile with
      | postBoot =>
        rw [hp] at hover
        cases hover
      | bootRom => exact Option.isSome_iff_ne_none.mpr fun h => hrom ⟨hp, h⟩

end Sys2Proof.Proofs
end
